-- ==== Sys2Proof/Word.lean ====
section
/-! DEFINITION. The bit-vector types of the block. Only what the spec treats as bits is one: the identifier, the length
code, payload bytes, the frame word, the event word and the packed state (R9, R13, R26, R42, R45, R112). -/

namespace Sys2Proof

/-- One payload byte; bit `k` has weight `2^k` (R9, R31). -/
abbrev Byte := BitVec 8

/-- The 11-bit standard identifier `F.id` (R42); bit 10 is the most significant (R30). -/
abbrev FrameId := BitVec 11

/-- The 4-bit length code `F.len` (R42): 0 to 8 admitted, 9 to 15 reserved (R46). -/
abbrev FrameLen := BitVec 4

/-- The frame word `FW[78:0]` (R45). -/
abbrev FrameWord := BitVec 79

/-- The event word `EW[2:0] = rst ‖ bus_fault ‖ f_valid` (R112). -/
abbrev EventWord := BitVec 3

/-- The packed state `ST[8:0]` (R26). -/
abbrev PackedState := BitVec 9

end Sys2Proof
end

