-- ==== Sys2Proof/Config.lean ====
section
/-! DEFINITION. The implementation parameters of `00_scope.md` R7, each under the spec's own name. Every value is the
spec's (its literals are unaudited, D15, log 16); the one OPEN parameter is an opaque constant. -/

namespace Sys2Proof.Config

/-- `ID_WIDTH` (R7). -/
abbrev idWidth : Nat := 11

/-- `MAX_LEN` (R7): the greatest payload length in bytes. -/
abbrev maxLen : Nat := 8

/-- `CTRL_ID` (R7): the identifier of the control message. -/
def ctrlId : FrameId := 0x2D5

/-- `MIN_LEN` (R7): the least payload length of a frame that is decoded. -/
abbrev minLen : Nat := 2

/-- `BYTE_IDX` (R7): the index of the payload byte that carries the buttons, counted from 0. -/
abbrev byteIdx : Nat := 1

/-- `MODE_BIT` (R7). -/
abbrev modeBit : Nat := 4

/-- `UP_BIT` (R7). -/
abbrev upBit : Nat := 6

/-- `DOWN_BIT` (R7). -/
abbrev downBit : Nat := 7

/-- `N_LINES` (R7): LED, play, next, previous; the four fields of `Machine.Lines`. -/
abbrev nLines : Nat := 4

/-- `DIAG_ID` (R7): the identifier of the startup diagnostic frame. -/
def diagId : FrameId := 1

/-- `DIAG_LEN` (R7). -/
def diagLen : FrameLen := 4

/-- `DIAG_DATA` (R7), byte 0 first. -/
def diagData : List Byte := [0x01, 0x02, 0x03, 0x04]

/-- `STICKY_RESET` (R7): `Idle`. -/
def stickyReset : Bool := false

/-- `OUT_RESET_LEVEL` (R7): high, on all four lines. -/
def outResetHigh : Bool := true

/-- `SNAP_RESET` (R7), as `(m, u, d)`. The spec's own decision D3, not the source's. UNVERIFIED, unsafe (log 9). -/
def snapReset : Bool × Bool × Bool := (false, false, false)

/-- `TRUE_IS_HIGH` (R7, R75): whether a mapper output of true is written as level high. The spec keeps it OPEN (D4), so
it is a constant without a body and no proof can learn its value. UNVERIFIED, safe (log 8). -/
opaque trueIsHigh : Bool

/-- `N_FILTER_BANKS` (R7): the one bank that `FILT_ALL` programs (`Machine.Endpoint.filterAll`). -/
abbrev nFilterBanks : Nat := 1

end Sys2Proof.Config
end

