-- ==== Sys2Proof/Syntax.lean ====
section
/-! DEFINITION. Frames, events and the instructions of `spec/opcode_table.json`, in the vocabulary of `00_scope.md` R6:
one received frame is one instruction and its class is the opcode; the event word and the operations of the Bus Endpoint
are the table's other rows. One constructor per mnemonic: the rows of one mnemonic are the disjoint bit patterns of one
class (R45), listed in `Decode.rxfRows` (DESIGN CHOICE, safe, log 19). -/

namespace Sys2Proof

/-- The payload array `F.data[0..7]` (R28, R42). Bytes at index `>= F.len` carry no meaning; they are kept, so that no bit
of a frame word is lost and their irrelevance can be proved (D17, U9, log 23). -/
structure Payload where
  b0 : Byte
  b1 : Byte
  b2 : Byte
  b3 : Byte
  b4 : Byte
  b5 : Byte
  b6 : Byte
  b7 : Byte
deriving DecidableEq, Repr

/-- Byte `i` of the array, `none` from 8 on (R28). -/
def Payload.byte? (p : Payload) : Nat → Option Byte
  | 0 => some p.b0
  | 1 => some p.b1
  | 2 => some p.b2
  | 3 => some p.b3
  | 4 => some p.b4
  | 5 => some p.b5
  | 6 => some p.b6
  | 7 => some p.b7
  | _ => none

/-- The payload that starts with the bytes of `bs` and is zero after them, as a frame word is shown (R45). -/
def Payload.ofList (bs : List Byte) : Payload :=
  ⟨bs.getD 0 0, bs.getD 1 0, bs.getD 2 0, bs.getD 3 0, bs.getD 4 0, bs.getD 5 0, bs.getD 6 0, bs.getD 7 0⟩

/-- The bytes of the array in index order. -/
def Payload.toList (p : Payload) : List Byte :=
  [p.b0, p.b1, p.b2, p.b3, p.b4, p.b5, p.b6, p.b7]

/-- A frame `F` (R42): exactly an identifier, a length code and eight payload bytes. -/
structure Frame where
  id : FrameId
  len : FrameLen
  data : Payload
deriving DecidableEq, Repr

/-- The four classes of R44. -/
inductive FrameClass where
  | upd
  | nupShort
  | nupId
  | rsvLen
deriving DecidableEq, Repr

/-- The cause of a `BusFault` (R87). Symbolic only: the block keeps no record of it. -/
inductive BusFaultCause where
  | rxFail
  | txFail
deriving DecidableEq, Repr

/-- How the transmit of the diagnostic frame ended (R83); the Bus Endpoint decides. -/
inductive TxResult where
  | sent
  | failed
deriving DecidableEq, Repr

/-- What the blocking receive gave (R81): a frame, an unrecoverable bus error, or nothing yet (the call still waits,
R98). The Bus Endpoint decides. -/
inductive RecvResult where
  | frame (f : Frame)
  | failed
  | waiting
deriving DecidableEq, Repr

/-- The instructions: every mnemonic of `spec/opcode_table.json`. Bits that the opcode fixes are no operands. -/
inductive Instr where
  /-- `UPD` (R53): identifier `0x2D5`, `2 <= len <= 8`. -/
  | upd (len : FrameLen) (data : Payload)
  /-- `NUP.SHORT` (R55): identifier `0x2D5`, `len <= 1`. -/
  | nupShort (len : FrameLen) (data : Payload)
  /-- `NUP.ID` (R54): identifier other than `0x2D5`, `len <= 8`. -/
  | nupId (id : FrameId) (len : FrameLen) (data : Payload)
  /-- `RSV.LEN` (R56): `9 <= len`. -/
  | rsvLen (id : FrameId) (len : FrameLen) (data : Payload)
  /-- `TXDIAG` (R83). Its frame is fixed; the result is the endpoint's (DESIGN CHOICE, safe, log 5). -/
  | txdiag (result : TxResult)
  /-- `RESET` (R99): event word `1bv`, with the coinciding `bus_fault` and `f_valid`. -/
  | reset (busFault fValid : Bool)
  /-- `FAULT` (R86): event word `01v`, with the coinciding `f_valid`. The cause is the endpoint's and stands on no port
  (DESIGN CHOICE, safe, log 5). -/
  | fault (cause : BusFaultCause) (fValid : Bool)
  /-- `FRAME` (R51): event word `001`, with the frame on the ports `f_id`, `f_len`, `f_data`. -/
  | frame (f : Frame)
  /-- `NONE` (R13): event word `000`. -/
  | noEvent
  /-- `RECV` (R81). It has no operand; its result is the endpoint's (DESIGN CHOICE, safe, log 4). -/
  | recv (result : RecvResult)
  /-- `FILT_ALL` (R82). -/
  | filtAll
deriving DecidableEq, Repr

/-- The formats of `spec/opcode_table.json` (R45, R112). -/
inductive Format where
  | rxf
  | txf
  | evt
  | env
deriving DecidableEq, Repr

/-- The format the table gives an instruction. -/
def Instr.format : Instr → Format
  | .upd _ _ => .rxf
  | .nupShort _ _ => .rxf
  | .nupId _ _ _ => .rxf
  | .rsvLen _ _ _ => .rxf
  | .txdiag _ => .txf
  | .reset _ _ => .evt
  | .fault _ _ => .evt
  | .frame _ => .evt
  | .noEvent => .evt
  | .recv _ => .env
  | .filtAll => .env

/-- Frames the `RXF` format cannot tell apart from standard data frames and the Bus Endpoint must not deliver (R46, D8). -/
inductive ForeignKind where
  | extendedId
  | remoteRequest
  | errorFrame
  | overloadFrame
deriving DecidableEq, Repr

/-- One item of the input sequence, undecoded: a word in one of the table's formats (DESIGN CHOICE, safe, log 2). -/
inductive Encoded where
  /-- One sample of the input ports of R13: the event word, the frame word on `f_id`, `f_len`, `f_data`, and, beside the
  ports, the cause the endpoint names if it reports a failure (R112: not carried on the ports; log 5). -/
  | evt (ew : EventWord) (fw : FrameWord) (cause : BusFaultCause)
  /-- A frame word as the endpoint's `receive() -> Frame` hands it over (R85). -/
  | rxf (fw : FrameWord)
  /-- A frame word given to the endpoint's `transmit(Frame)`, and how that ended (R83, R85). -/
  | txf (fw : FrameWord) (result : TxResult)
  /-- A completed or waiting `RECV` (R81): no encoding exists. -/
  | recv (result : RecvResult)
  /-- `FILT_ALL` (R82): no encoding exists. -/
  | filtAll
  /-- A frame of a kind that is never presented (R46, D8). -/
  | foreign (kind : ForeignKind)
deriving DecidableEq, Repr

/-- The table's format of an input item; a foreign frame has none. -/
def Encoded.format? : Encoded → Option Format
  | .evt _ _ _ => some .evt
  | .rxf _ => some .rxf
  | .txf _ _ => some .txf
  | .recv _ => some .env
  | .filtAll => some .env
  | .foreign _ => none

/-- Why an input item is no instruction. -/
inductive DecodeError where
  /-- A transmit request for a frame other than the diagnostic frame: the block transmits nothing else, ever (R83). -/
  | notDiagFrame (fw : FrameWord)
  /-- Not a standard-identifier data frame (R46, D8). -/
  | notStandardData (kind : ForeignKind)
deriving DecidableEq, Repr

end Sys2Proof
end

