-- ==== Sys2Proof/Decode.lean ====
section
/-! DEFINITION. The frame word (R45), the class map (R44) with the table's 29 `RXF` rows, the event word (R112), the
decoder (total on every input item, rejecting by name) and the encoder, and the reading of a bare table word. -/

namespace Sys2Proof

/-- `FW[78:0] = F.id ‖ F.len ‖ F.data[0] ‖ … ‖ F.data[7]` (R45). -/
def wordOfFrame (f : Frame) : FrameWord :=
  f.id ++ f.len ++ f.data.b0 ++ f.data.b1 ++ f.data.b2 ++ f.data.b3 ++ f.data.b4 ++ f.data.b5 ++ f.data.b6 ++ f.data.b7

/-- The fields of a frame word (R45): `FW[78:68]`, `FW[67:64]`, `FW[63:56]`, …, `FW[7:0]`. -/
def frameOfWord (w : FrameWord) : Frame where
  id := w.extractLsb' 68 11
  len := w.extractLsb' 64 4
  data := {
    b0 := w.extractLsb' 56 8
    b1 := w.extractLsb' 48 8
    b2 := w.extractLsb' 40 8
    b3 := w.extractLsb' 32 8
    b4 := w.extractLsb' 24 8
    b5 := w.extractLsb' 16 8
    b6 := w.extractLsb' 8 8
    b7 := w.extractLsb' 0 8 }

/-! ## The class map -/

/-- The class of an (identifier, length) pair (R44); it depends on nothing else. -/
def classOf (id : FrameId) (len : FrameLen) : FrameClass :=
  if Config.maxLen < len.toNat then .rsvLen
  else if id ≠ Config.ctrlId then .nupId
  else if len.toNat < Config.minLen then .nupShort
  else .upd

/-- The instruction of a received frame: its class with the operands the class leaves free (R44). -/
def instrOfFrame (f : Frame) : Instr :=
  match classOf f.id f.len with
  | .upd => .upd f.len f.data
  | .nupShort => .nupShort f.len f.data
  | .nupId => .nupId f.id f.len f.data
  | .rsvLen => .rsvLen f.id f.len f.data

/-- A row of the table in format `RXF` (R45): a word `w` matches when `w AND mask = pattern`. -/
structure RxfRow where
  cls : FrameClass
  pattern : FrameWord
  mask : FrameWord
deriving DecidableEq, Repr

/-- Whether a frame word matches a row (R45). -/
def rowHits (w : FrameWord) (r : RxfRow) : Bool := w &&& r.mask == r.pattern

/-- The rows `UPD` len2-3, len4-7, len8 and `NUP.SHORT` len0-1. -/
def rxfRowsControl : List RxfRow := [
  ⟨.upd, 0x2D520000000000000000, 0x7FFE0000000000000000⟩,
  ⟨.upd, 0x2D540000000000000000, 0x7FFC0000000000000000⟩,
  ⟨.upd, 0x2D580000000000000000, 0x7FFF0000000000000000⟩,
  ⟨.nupShort, 0x2D500000000000000000, 0x7FFE0000000000000000⟩]

/-- The rows `NUP.ID` idbit10 to idbit0, lengths 0 to 7: the first identifier bit from the left that differs. -/
def rxfRowsOtherId : List RxfRow := [
  ⟨.nupId, 0x40000000000000000000, 0x40080000000000000000⟩,
  ⟨.nupId, 0x00000000000000000000, 0x60080000000000000000⟩,
  ⟨.nupId, 0x30000000000000000000, 0x70080000000000000000⟩,
  ⟨.nupId, 0x20000000000000000000, 0x78080000000000000000⟩,
  ⟨.nupId, 0x28000000000000000000, 0x7C080000000000000000⟩,
  ⟨.nupId, 0x2E000000000000000000, 0x7E080000000000000000⟩,
  ⟨.nupId, 0x2C000000000000000000, 0x7F080000000000000000⟩,
  ⟨.nupId, 0x2D800000000000000000, 0x7F880000000000000000⟩,
  ⟨.nupId, 0x2D000000000000000000, 0x7FC80000000000000000⟩,
  ⟨.nupId, 0x2D600000000000000000, 0x7FE80000000000000000⟩,
  ⟨.nupId, 0x2D400000000000000000, 0x7FF80000000000000000⟩]

/-- The rows `NUP.ID` idbit10 to idbit0, length 8. -/
def rxfRowsOtherIdLen8 : List RxfRow := [
  ⟨.nupId, 0x40080000000000000000, 0x400F0000000000000000⟩,
  ⟨.nupId, 0x00080000000000000000, 0x600F0000000000000000⟩,
  ⟨.nupId, 0x30080000000000000000, 0x700F0000000000000000⟩,
  ⟨.nupId, 0x20080000000000000000, 0x780F0000000000000000⟩,
  ⟨.nupId, 0x28080000000000000000, 0x7C0F0000000000000000⟩,
  ⟨.nupId, 0x2E080000000000000000, 0x7E0F0000000000000000⟩,
  ⟨.nupId, 0x2C080000000000000000, 0x7F0F0000000000000000⟩,
  ⟨.nupId, 0x2D880000000000000000, 0x7F8F0000000000000000⟩,
  ⟨.nupId, 0x2D080000000000000000, 0x7FCF0000000000000000⟩,
  ⟨.nupId, 0x2D680000000000000000, 0x7FEF0000000000000000⟩,
  ⟨.nupId, 0x2D480000000000000000, 0x7FFF0000000000000000⟩]

/-- The rows `RSV.LEN` len9, len10-11, len12-15. -/
def rxfRowsReserved : List RxfRow := [
  ⟨.rsvLen, 0x00090000000000000000, 0x000F0000000000000000⟩,
  ⟨.rsvLen, 0x000A0000000000000000, 0x000E0000000000000000⟩,
  ⟨.rsvLen, 0x000C0000000000000000, 0x000C0000000000000000⟩]

/-- The 29 `RXF` rows of `spec/opcode_table.json` (R45). -/
def rxfRows : List RxfRow := rxfRowsControl ++ rxfRowsOtherId ++ rxfRowsOtherIdLen8 ++ rxfRowsReserved

/-! ## The transmitted frame -/

/-- The one frame the system transmits (R48): identifier 1, four bytes `01 02 03 04`. -/
def diagFrame : Frame := ⟨Config.diagId, Config.diagLen, Payload.ofList Config.diagData⟩

/-- The table's `TXDIAG` row: `FW[31:0]` is unused (R83). -/
def isDiagWord (w : FrameWord) : Bool :=
  w &&& 0x7FFFFFFFFFFF00000000 == 0x00140102030400000000

/-! ## Decoder and encoder -/

/-- The event word's four patterns, in the priority of R90: `1bv`, `01v`, `001`, `000` (R112). -/
def decodeEvent (ew : EventWord) (fw : FrameWord) (cause : BusFaultCause) : Instr :=
  if ew.getLsbD 2 then .reset (ew.getLsbD 1) (ew.getLsbD 0)
  else if ew.getLsbD 1 then .fault cause (ew.getLsbD 0)
  else if ew.getLsbD 0 then .frame (frameOfWord fw)
  else .noEvent

/-- The decoder: total, rejecting by name. The decoding does not depend on the block's state (R47). -/
def decode : Encoded → Except DecodeError Instr
  | .evt ew fw cause => .ok (decodeEvent ew fw cause)
  | .rxf fw => .ok (instrOfFrame (frameOfWord fw))
  | .txf fw result => if isDiagWord fw then .ok (.txdiag result) else .error (.notDiagFrame fw)
  | .recv result => .ok (.recv result)
  | .filtAll => .ok .filtAll
  | .foreign kind => .error (.notStandardData kind)

/-- The event word of three port values (R112): `rst ‖ bus_fault ‖ f_valid`. -/
def eventWord (rst busFault fValid : Bool) : EventWord :=
  BitVec.ofBool rst ++ BitVec.ofBool busFault ++ BitVec.ofBool fValid

/-- The encoder: the word of an instruction in its table format, ports that carry no meaning at zero. -/
def encode : Instr → Encoded
  | .upd len data => .rxf (wordOfFrame ⟨Config.ctrlId, len, data⟩)
  | .nupShort len data => .rxf (wordOfFrame ⟨Config.ctrlId, len, data⟩)
  | .nupId id len data => .rxf (wordOfFrame ⟨id, len, data⟩)
  | .rsvLen id len data => .rxf (wordOfFrame ⟨id, len, data⟩)
  | .txdiag result => .txf (wordOfFrame diagFrame) result
  | .reset busFault fValid => .evt (eventWord true busFault fValid) 0 .rxFail
  | .fault cause fValid => .evt (eventWord false true fValid) 0 cause
  | .frame f => .evt (eventWord false false true) (wordOfFrame f) .rxFail
  | .noEvent => .evt (eventWord false false false) 0 .rxFail
  | .recv result => .recv result
  | .filtAll => .filtAll

/-! ## A bare word of the table -/

/-- The input item a bare table word stands for. Up to 8 bits it is an event word, with every other port at zero; above,
a frame word: in format `TXF` if it is the diagnostic frame (and then sent), else in format `RXF`. No bits: an `ENV` row,
which has no word. The table leaves a bare word's direction open: the diagnostic frame's word is also a `NUP.ID` frame
word, and a RECEIVED one (`Encoded.rxf`, or `FRAME`) is always read as `NUP.ID` (R41). DESIGN CHOICE, safe (log 3). -/
def itemOfTableWord (nbits w : Nat) : Option Encoded :=
  if nbits = 0 then none
  else if nbits ≤ 8 then some (.evt (BitVec.ofNat 3 w) 0 .rxFail)
  else if isDiagWord (BitVec.ofNat 79 w) then some (.txf (BitVec.ofNat 79 w) .sent)
  else some (.rxf (BitVec.ofNat 79 w))

/-- The instruction the decoder reads from a bare table word (log 3). -/
def decodeTableWord (nbits w : Nat) : Option Instr :=
  match itemOfTableWord nbits w with
  | none => none
  | some e =>
    match decode e with
    | .ok i => some i
    | .error _ => none

end Sys2Proof
end

