-- ==== Sys2Proof/Machine/State.lean ====
section
/-! DEFINITION. The state of the block (R12), the reasons a step can stop, and the machine right after reset (R99). -/

namespace Sys2Proof.Machine

/-- `SNAP`, or a decoded snapshot (R14): `mode_pressed`, `seek_up_pressed`, `seek_down_pressed`; true is pressed (R43). -/
structure Snapshot where
  m : Bool
  u : Bool
  d : Bool
deriving DecidableEq, Repr

/-- The mapper's logical outputs (R10, R73). -/
structure Outputs where
  led : Bool
  play : Bool
  next : Bool
  prev : Bool
deriving DecidableEq, Repr

/-- Line levels, true is high (R16); another type than `Outputs`, so that only `lvl` turns the one into the other (R75). -/
structure Lines where
  led : Bool
  play : Bool
  next : Bool
  prev : Bool
deriving DecidableEq, Repr

/-- The MODEL's own record of what the Bus Endpoint has been asked to do since the last reset; no rule of the block reads
it (R24). DESIGN CHOICE, safe (log 6). -/
structure Endpoint where
  /-- The one filter bank has been programmed to accept all frames (R82). -/
  filterAll : Bool
  /-- The frames transmitted, oldest first (R83, R85). -/
  sent : List FrameWord
deriving DecidableEq, Repr

/-- The four registers of R12 (nine bits), and two fields of the model's own: the endpoint's record and the event
sequence that is the parameter of a run (R8, R36). -/
structure State where
  /-- `SNAP` (R14). -/
  snap : Snapshot
  /-- `STICKY` (R15): true is `Sticky`, false is `Idle`. -/
  sticky : Bool
  /-- `OUT` (R16). -/
  out : Lines
  /-- `HALT` (R17). -/
  halt : Bool
  /-- The MODEL's own (log 6). -/
  endpoint : Endpoint
  /-- The MODEL's own: the input items still to come, next first; the environment chooses them. DESIGN CHOICE, safe (log 1). -/
  input : List Encoded
deriving DecidableEq, Repr

/-- The faults. `BusFault` is none of them: its entry is described by the spec (R91) and taken as a next state (log 10). -/
inductive Fault where
  /-- Raised by a meaning that reads a payload byte at an index not below `F.len`, where R11 defines no `MemRead`. No
  well-formed instruction reaches it. DESIGN CHOICE, safe (log 18). -/
  | payloadIndex
deriving DecidableEq, Repr

/-- The refusals. -/
inductive Refusal where
  /-- Raised by an arm of `exec` whose instruction has no meaning yet; no arm is one. Safe. -/
  | notModelled (mnemonic : String)
  /-- Raised by `RSV.LEN`, and by `FRAME` and `RECV` with such a frame: a length code of 9 to 15 is refused at the
  boundary and given no meaning (R46, R56, D7). Safe (log 14). -/
  | reservedLength
  /-- Raised by `step` on an input item that is no instruction: a foreign frame (R46, D8) or a transmit request for another
  frame than the diagnostic one (R83). Safe (log 2, log 15). -/
  | undecodable (why : DecodeError)
deriving DecidableEq, Repr

/-- `SNAP_RESET` as a snapshot (R7, R99, D3; log 9). -/
def Snapshot.atReset : Snapshot := ⟨Config.snapReset.1, Config.snapReset.2.1, Config.snapReset.2.2⟩

/-- All four lines at one level. -/
def Lines.all (level : Bool) : Lines := ⟨level, level, level, level⟩

/-- The machine right after reset (R99); no event is pending and the endpoint has been asked for nothing (log 1, log 6). -/
def State.reset : State where
  snap := Snapshot.atReset
  sticky := Config.stickyReset
  out := Lines.all Config.outResetHigh
  halt := false
  endpoint := ⟨false, []⟩
  input := []

end Sys2Proof.Machine
end

