-- ==== Sys2Proof/Machine/Flags.lean ====
section
/-! DEFINITION. The one status bit of the block (R20), the sticky latch: `seek_any` (R65) and `NEXT` (R66). -/

namespace Sys2Proof.Machine

/-- The wire `seek_any = u OR d` (R65). -/
def Snapshot.seekAny (b : Snapshot) : Bool := b.u || b.d

/-- `NEXT` (R66): the three rules in the source's priority order (C5 keeps the redundant conjunct). -/
def nextLatch (s : Bool) (b : Snapshot) : Bool :=
  if !b.seekAny then false
  else if b.m && b.seekAny then true
  else s

end Sys2Proof.Machine
end

