-- ==== Sys2Proof/Machine/Mapper.lean ====
section
/-! DEFINITION. The output mapper `MAP` (R73) and the conversion of logical values to line levels `LVL` (R75). -/

namespace Sys2Proof.Machine

/-- `MAP` (R73). Both seek buttons pass through together while the latch is `Idle` (R77). -/
def mapOut (s : Bool) (b : Snapshot) : Outputs :=
  let play := s || b.m
  { led := play, play := play, next := b.u && !s, prev := b.d && !s }

/-- `LVL` for a given polarity (R75): one polarity for all four lines. -/
def lvlWith (trueIsHigh : Bool) (o : Outputs) : Lines :=
  if trueIsHigh then ⟨o.led, o.play, o.next, o.prev⟩ else ⟨!o.led, !o.play, !o.next, !o.prev⟩

/-- `LVL` (R75) at this hardware's polarity, the open parameter `TRUE_IS_HIGH` (D4, log 8). -/
def lvl (o : Outputs) : Lines := lvlWith Config.trueIsHigh o

end Sys2Proof.Machine
end

