-- ==== Sys2Proof/Machine/Operands.lean ====
section
/-! DEFINITION. Where the operands of a frame come from: the payload read `MemRead` (R11, R28), the frame selector `SEL`
(R52) and the bit-field decoder `DEC` (R59). -/

namespace Sys2Proof.Machine

/-- `MemRead(i, 1)` (R11): the payload byte at index `i`, defined only for `i < F.len`. -/
def memRead (f : Frame) (i : Nat) : Option Byte :=
  if i < f.len.toNat then f.data.byte? i else none

/-- `SEL`, the bus frame selector (R52): all 11 identifier bits, and a lower bound on the length. -/
def sel (f : Frame) : Bool :=
  f.id == Config.ctrlId && decide (Config.minLen ≤ f.len.toNat)

/-- `DEC`, the bit-field decoder (R59): bits 4, 6 and 7 as they stand, a set bit meaning pressed (R43). -/
def dec (b : Byte) : Snapshot :=
  ⟨b.getLsbD Config.modeBit, b.getLsbD Config.upBit, b.getLsbD Config.downBit⟩

end Sys2Proof.Machine
end

