-- ==== Sys2Proof/Machine/Ops.lean ====
section
/-! DEFINITION. The named operations every meaning is made of: the register writes, the frame step (R51), taking the one
exception (R91) and the only way out of it (R92, R99), the endpoint's record, and the fetch of the next input item. -/

namespace Sys2Proof.Machine

/-- What a meaning answers. -/
abbrev Result := Host.Outcome State Fault Refusal

/-! ## Register writes -/

/-- `SNAP <- v` (R60). -/
def State.setSnap (s : State) (v : Snapshot) : State := { s with snap := v }

/-- `STICKY <- v` (R67). -/
def State.setSticky (s : State) (v : Bool) : State := { s with sticky := v }

/-- `OUT <- v`, all four lines together (R37, R76; D6, unsafe, log 12). -/
def State.setOut (s : State) (v : Lines) : State := { s with out := v }

/-- `HALT <- v` (R17). -/
def State.setHalt (s : State) (v : Bool) : State := { s with halt := v }

/-- The environment's input sequence is now `v` (log 1). -/
def State.setInput (s : State) (v : List Encoded) : State := { s with input := v }

/-- The endpoint's record is now `v` (log 6). -/
def State.setEndpoint (s : State) (v : Endpoint) : State := { s with endpoint := v }

/-! ## The frame step -/

/-- What a halted block does with an event: nothing (R17, R91). -/
def ifRunning (s : State) (k : Result) : Result := if s.halt then .next s else k

/-- The second half of R51, from the snapshot this step leaves: the latch sees the new snapshot (R67), the mapper the new
latch (R74), and the three registers are written in one atomic step (R37). -/
def pipeline (s : State) (snap : Snapshot) : State :=
  ((s.setSnap snap).setSticky (nextLatch s.sticky snap)).setOut (lvl (mapOut (nextLatch s.sticky snap) snap))

/-- The decoder's "update" result (R60): byte 1 of the payload gives the whole new snapshot. -/
def updateFrom (f : Frame) (s : State) : Result :=
  match memRead f Config.byteIdx with
  | some b => .next (pipeline s (dec b))
  | none => .fault .payloadIndex

/-- The decoder's "no update" result (R61): the snapshot is retained; latch and mapper still run (R51 point 2; D20,
unsafe, log 13). -/
def retain (s : State) : Result := .next (pipeline s s.snap)

/-- The frame step (R51), for any frame; a reserved length is refused at the boundary (R56). -/
def frameStep (f : Frame) (s : State) : Result :=
  if Config.maxLen < f.len.toNat then .refused .reservedLength
  else ifRunning s (if sel f then updateFrom f s else retain s)

/-! ## The exception and the way out -/

/-- Taking `BusFault(cause)` (R91): `HALT <- 1` and nothing else; the cause is not recorded (R87). -/
def raiseBusFault (_cause : BusFaultCause) (s : State) : State := s.setHalt true

/-- Power-on reset (R99), the only way out of a halt: there is no return (R92). Every field but the events still to come
takes its reset value (DESIGN CHOICE, safe, log 25). -/
def powerOnReset (s : State) : State := State.reset.setInput s.input

/-! ## The endpoint's record -/

/-- The filter bank now accepts all frames (R82). -/
def programFilter (s : State) : State := s.setEndpoint { s.endpoint with filterAll := true }

/-- `transmit(F)` succeeded (R83, R85). -/
def transmit (f : Frame) (s : State) : State :=
  s.setEndpoint { s.endpoint with sent := s.endpoint.sent ++ [wordOfFrame f] }

/-! ## Fetch -/

/-- The next input item and the state without it (R38); none while the block waits in `RECV` (R13, R98). -/
def fetch (s : State) : Option (Encoded × State) :=
  match s.input with
  | [] => none
  | e :: rest => some (e, s.setInput rest)

/-- Put an item where the next fetch takes it: the head of the input sequence. -/
def State.setHead (s : State) (e : Encoded) : State := s.setInput (e :: s.input.tail)

end Sys2Proof.Machine
end

