-- ==== Sys2Proof/Machine/BusEndpoint.lean ====
section
/-! DEFINITION. The meanings of the Bus Endpoint operations (R81 to R83). -/

namespace Sys2Proof.Machine

/-- `TXDIAG` (R83): the fixed frame is sent and no register changes, or `BusFault(TxFail)` is taken. A halted block sends
nothing (DEDUCED, safe, log 7). -/
def execTxdiag (result : TxResult) (s : State) : Result :=
  match result with
  | .sent => ifRunning s (.next (transmit diagFrame s))
  | .failed => .next (raiseBusFault .txFail s)

/-- `RECV` (R81): a completed receive is one event of the run, a frame or `BusFault(RxFail)`; until then the block waits
and everything holds (R98). -/
def execRecv (result : RecvResult) (s : State) : Result :=
  match result with
  | .frame f => frameStep f s
  | .failed => .next (raiseBusFault .rxFail s)
  | .waiting => .next s

/-- `FILT_ALL` (R82): the filter accepts all frames and no register changes. A halted block does not do it (DEDUCED, safe,
log 7). -/
def execFiltAll (s : State) : Result := ifRunning s (.next (programFilter s))

end Sys2Proof.Machine
end

