-- ==== Sys2Proof/Machine/Events.lean ====
section
/-! DEFINITION. The meanings of the other events of R112: `RESET`, `FAULT`, `NONE`. -/

namespace Sys2Proof.Machine

/-- `RESET` (R99): wins over a coinciding fault or frame (R90; D11, log 17), halted or not. -/
def execReset (_busFault _fValid : Bool) (s : State) : Result := .next (powerOnReset s)

/-- `FAULT` (R86, R91): takes the bus fault; a coinciding frame is not processed (R90; D11, log 17). On a halted block it
changes nothing (R92). -/
def execFault (cause : BusFaultCause) (_fValid : Bool) (s : State) : Result := .next (raiseBusFault cause s)

/-- `NONE` (R13): the blocked receive; nothing changes. -/
def execNoEvent (s : State) : Result := .next s

end Sys2Proof.Machine
end

