-- ==== Sys2Proof/Machine/Frames.lean ====
section
/-! DEFINITION. The meanings of the frame classes (R53 to R56) and of a frame on the ports (R51). -/

namespace Sys2Proof.Machine

/-- `UPD` (R53): the matching frame's byte 1 replaces the snapshot, then latch, then mapper. -/
def execUpd (len : FrameLen) (data : Payload) (s : State) : Result :=
  ifRunning s (updateFrom ⟨Config.ctrlId, len, data⟩ s)

/-- `NUP.SHORT` (R55): nothing is decoded, the snapshot is retained; no payload byte is read. -/
def execNupShort (_len : FrameLen) (_data : Payload) (s : State) : Result :=
  ifRunning s (retain s)

/-- `NUP.ID` (R54): silently ignored by the decoder, the snapshot is retained; the payload is not read. -/
def execNupId (_id : FrameId) (_len : FrameLen) (_data : Payload) (s : State) : Result :=
  ifRunning s (retain s)

/-- `RSV.LEN` (R56): not a frame the Bus Endpoint can deliver; refused, and nothing is said of the state after it. -/
def execRsvLen (_id : FrameId) (_len : FrameLen) (_data : Payload) (_s : State) : Result :=
  .refused .reservedLength

/-- `FRAME` (R51): the frame step for the frame on the ports. -/
def execFrame (f : Frame) (s : State) : Result := frameStep f s

end Sys2Proof.Machine
end

