-- ==== Sys2Proof/Machine/Dispatch.lean ====
section
/-! DEFINITION. One arm per instruction, each one call of its meaning. -/

namespace Sys2Proof.Machine

def exec (i : Instr) (s : State) : Host.Outcome State Fault Refusal :=
  match i with
  | .upd len data => Sys2Proof.Machine.execUpd len data s
  | .nupShort len data => Sys2Proof.Machine.execNupShort len data s
  | .nupId id len data => Sys2Proof.Machine.execNupId id len data s
  | .rsvLen id len data => Sys2Proof.Machine.execRsvLen id len data s
  | .txdiag result => Sys2Proof.Machine.execTxdiag result s
  | .reset busFault fValid => Sys2Proof.Machine.execReset busFault fValid s
  | .fault cause fValid => Sys2Proof.Machine.execFault cause fValid s
  | .frame f => Sys2Proof.Machine.execFrame f s
  | .noEvent => Sys2Proof.Machine.execNoEvent s
  | .recv result => Sys2Proof.Machine.execRecv result s
  | .filtAll => Sys2Proof.Machine.execFiltAll s

end Sys2Proof.Machine
end

