-- ==== Sys2Proof/Machine/Step.lean ====
section
/-! DEFINITION. One step: fetch the next input item, decode it, run it. No item is no event (R13). -/

namespace Sys2Proof.Machine

/-- One step of the block. An empty input sequence is the silent bus: nothing changes, for ever (R13, R98, R111). -/
def step (s : State) : Host.Outcome State Fault Refusal :=
  match fetch s with
  | none => .next s
  | some (e, s') =>
    match decode e with
    | .ok i => exec i s'
    | .error why => .refused (.undecodable why)

/-- `s` with a bare table word stored where `step` fetches its next instruction: the head of the input sequence (log 1,
log 3). An `ENV` row has no word, so nothing can be stored for it. -/
def State.withFetchWord (s : State) (nbits w : Nat) : State :=
  match itemOfTableWord nbits w with
  | some e => s.setHead e
  | none => s

end Sys2Proof.Machine
end

