-- ==== Sys2Proof/Machine/EventText.lean ====
section
/-! DEFINITION. The spec's own text form of events: one event a line (R49), and the pseudo-instructions (R50). What R49
leaves to the writer of a line (spacing, letter case) is fixed here: DESIGN CHOICE, safe (log 24). -/

namespace Sys2Proof.Machine

/-! ## Pseudo-instructions -/

/-- The button byte `bb = m*0x10 + u*0x40 + d*0x80` (R50). -/
def buttonByte (m u d : Bool) : Byte :=
  (if m then 0x10 else 0) + (if u then 0x40 else 0) + (if d then 0x80 else 0)

/-- `BTN m u d` (R50): the minimal `UPD` frame with the given buttons. -/
def btn (m u d : Bool) : Frame := ⟨Config.ctrlId, 2, Payload.ofList [0x00, buttonByte m u d]⟩

/-- `REL` (R50): all buttons released. -/
def rel : Frame := btn false false false

/-- `NOISE <id>` (R50): a minimal `NUP.ID` frame, for an identifier other than `0x2D5`. -/
def noise (id : FrameId) : Frame := ⟨id, 0, Payload.ofList []⟩

/-- `SHORT` (R50): a `NUP.SHORT` frame whose only byte is all ones. -/
def short : Frame := ⟨Config.ctrlId, 1, Payload.ofList [0xFF]⟩

/-! ## Writing a line -/

/-- A hexadecimal digit in capitals, as the spec's examples write it. -/
def hexDigit (n : Nat) : Char := "0123456789ABCDEF".toList.getD n '0'

/-- A payload byte: two hexadecimal digits (R49). -/
def byteText (b : Byte) : List Char := [hexDigit (b.toNat / 16), hexDigit (b.toNat % 16)]

/-- An identifier: `0x` and three hexadecimal digits (R49). -/
def idText (id : FrameId) : List Char :=
  ['0', 'x', hexDigit (id.toNat / 256), hexDigit (id.toNat / 16 % 16), hexDigit (id.toNat % 16)]

/-- `FRAME <id> <len> [<b0> <b1> ... ]` (R49): exactly `len` bytes; a reserved length has no line. -/
def frameText (f : Frame) : Option (List Char) :=
  if Config.maxLen < f.len.toNat then none
  else some ("FRAME ".toList ++ idText f.id ++ [' ', hexDigit f.len.toNat, ' ', '['] ++
    List.intercalate [' '] ((f.data.toList.take f.len.toNat).map byteText) ++ [']'])

/-- `FAULT RX`, `FAULT TX` (R49). -/
def faultText : BusFaultCause → List Char
  | .rxFail => "FAULT RX".toList
  | .txFail => "FAULT TX".toList

/-- The line of an event (R49); the boot operations are written where a vector shows them, a failed transmit as its
fault. No event and a refused frame have no line. -/
def eventText : Instr → Option (List Char)
  | .upd len data => frameText ⟨Config.ctrlId, len, data⟩
  | .nupShort len data => frameText ⟨Config.ctrlId, len, data⟩
  | .nupId id len data => frameText ⟨id, len, data⟩
  | .rsvLen _ _ _ => none
  | .txdiag .sent => some "TXDIAG".toList
  | .txdiag .failed => some (faultText .txFail)
  | .reset _ _ => some "RESET".toList
  | .fault cause _ => some (faultText cause)
  | .frame f => frameText f
  | .noEvent => none
  | .recv (.frame f) => frameText f
  | .recv .failed => some (faultText .rxFail)
  | .recv .waiting => none
  | .filtAll => some "FILT_ALL".toList

/-! ## Reading a line -/

/-- The words of a line: split at spaces, each bracket a word of its own, a `;` ends the line (R49). -/
def wordsFrom (word : List Char) : List Char → List (List Char)
  | [] => if word.isEmpty then [] else [word]
  | c :: cs =>
    let before := if word.isEmpty then [] else [word]
    if c = ';' then before
    else if c = ' ' then before ++ wordsFrom [] cs
    else if c = '[' ∨ c = ']' then before ++ [c] :: wordsFrom [] cs
    else wordsFrom (word ++ [c]) cs

/-- The value of a digit in bases up to 16, letters in either case. -/
def digitValue? (c : Char) : Option Nat :=
  let n := c.toNat
  if 48 ≤ n ∧ n ≤ 57 then some (n - 48)
  else if 65 ≤ n ∧ n ≤ 70 then some (n - 55)
  else if 97 ≤ n ∧ n ≤ 102 then some (n - 87)
  else none

/-- A hexadecimal number from its digits, after the digits already read as `acc`. -/
def hexFrom (acc : Nat) : List Char → Option Nat
  | [] => some acc
  | c :: cs =>
    match digitValue? c with
    | some v => hexFrom (16 * acc + v) cs
    | none => none

/-- An identifier: `0x` and at least one hexadecimal digit, at most `0x7FF` (R49, R42). -/
def readId : List Char → Option FrameId
  | '0' :: 'x' :: c :: cs =>
    match hexFrom 0 (c :: cs) with
    | some n => if n < 2 ^ Config.idWidth then some (BitVec.ofNat 11 n) else none
    | none => none
  | _ => none

/-- A length: one decimal digit from 0 to 8 (R49). -/
def readLen : List Char → Option FrameLen
  | [c] =>
    match digitValue? c with
    | some v => if v ≤ Config.maxLen then some (BitVec.ofNat 4 v) else none
    | none => none
  | _ => none

/-- Payload bytes up to the closing bracket, which ends the line (R49). -/
def readBytes : List (List Char) → Option (List Byte)
  | [] => none
  | w :: ws =>
    if w = [']'] then (if ws.isEmpty then some [] else none)
    else
      match w with
      | [hi, lo] =>
        match hexFrom 0 [hi, lo], readBytes ws with
        | some v, some bs => some (BitVec.ofNat 8 v :: bs)
        | _, _ => none
      | _ => none

/-- A button argument of `BTN` (R50). -/
def readBit : List Char → Option Bool
  | ['0'] => some false
  | ['1'] => some true
  | _ => none

/-- `FRAME <id> <len> [...]`, without its first word and its opening bracket. -/
def readFrame (id len : List Char) (bytes : List (List Char)) : Option Instr :=
  match readId id, readLen len, readBytes bytes with
  | some id, some len, some bs => if bs.length = len.toNat then some (.frame ⟨id, len, Payload.ofList bs⟩) else none
  | _, _, _ => none

/-- A line without arguments. -/
def readPlain (w : List Char) : Option Instr :=
  if w = "RESET".toList then some (.reset false false)
  else if w = "FILT_ALL".toList then some .filtAll
  else if w = "TXDIAG".toList then some (.txdiag .sent)
  else if w = "REL".toList then some (.frame rel)
  else if w = "SHORT".toList then some (.frame short)
  else none

/-- A line with one argument. -/
def readOne (w a : List Char) : Option Instr :=
  if w = "FAULT".toList ∧ a = "RX".toList then some (.fault .rxFail false)
  else if w = "FAULT".toList ∧ a = "TX".toList then some (.fault .txFail false)
  else if w = "NOISE".toList then
    match readId a with
    | some id => if id = Config.ctrlId then none else some (.frame (noise id))
    | none => none
  else none

/-- The event a line of R49 or R50 stands for. -/
def readEvent (line : String) : Option Instr :=
  match wordsFrom [] line.toList with
  | [w] => readPlain w
  | [w, a] => readOne w a
  | [w, a, b, c] =>
    if w = "BTN".toList then
      match readBit a, readBit b, readBit c with
      | some m, some u, some d => some (.frame (btn m u d))
      | _, _, _ => none
    else none
  | w :: id :: len :: o :: bytes => if w = "FRAME".toList ∧ o = ['['] then readFrame id len bytes else none
  | _ => none

end Sys2Proof.Machine
end

