-- ==== Sys2Proof/Machine/Run.lean ====
section
/-! DEFINITION. A run of the block: the step folded over an event sequence (R36, R111), and what is observed of it (R27). -/

namespace Sys2Proof.Machine

/-- The events of `is` in order, each complete before the next is looked at (R36); stops at the first refusal. The spec's runs hold
`Reset`, `Frame` and `Fault` events only (R13); that a list here may also hold `NONE`, a waiting `RECV`, `FILT_ALL` and a
sent `TXDIAG` is the model's (DESIGN CHOICE, safe, log 26). -/
def run : List Instr → State → Result
  | [], s => .next s
  | i :: is, s =>
    match exec i s with
    | .next t => run is t
    | .fault r => .fault r
    | .refused r => .refused r

/-- The observation of a run (R27): the value of `OUT` before the first event and after each event that was taken. Each
member of the list adds one value, also `NONE`, a waiting `RECV`, `FILT_ALL` and a sent `TXDIAG`, which are no events of
R13: for these the value before is repeated. R27 leaves their observation open, and a run's start at another state than
`Reset`'s, too (DESIGN CHOICE, safe, log 26). -/
def observe : List Instr → State → List Lines
  | [], s => [s.out]
  | i :: is, s =>
    s.out ::
      match exec i s with
      | .next t => observe is t
      | .fault _ => []
      | .refused _ => []

end Sys2Proof.Machine
end

