-- ==== Sys2Proof/Machine/View.lean ====
section
/-! DEFINITION. Other views of the registers: the output ports (R13, R27) and the packed state `ST[8:0]` (R26). -/

namespace Sys2Proof.Machine

/-- The output ports of R13. -/
structure OutPorts where
  led : Bool
  play : Bool
  next : Bool
  prev : Bool
  halted : Bool
deriving DecidableEq, Repr

/-- Each line is the like-named bit of `OUT` at all times, and `halted` equals `HALT` (R13). -/
def outPorts (s : State) : OutPorts := ⟨s.out.led, s.out.play, s.out.next, s.out.prev, s.halt⟩

/-- `ST[8:0] = HALT ‖ OUT.led ‖ OUT.play ‖ OUT.next ‖ OUT.prev ‖ STICKY ‖ SNAP.d ‖ SNAP.u ‖ SNAP.m` (R26). -/
def packState (s : State) : PackedState :=
  BitVec.ofBool s.halt ++ BitVec.ofBool s.out.led ++ BitVec.ofBool s.out.play ++ BitVec.ofBool s.out.next ++
    BitVec.ofBool s.out.prev ++ BitVec.ofBool s.sticky ++ BitVec.ofBool s.snap.d ++ BitVec.ofBool s.snap.u ++
    BitVec.ofBool s.snap.m

/-- `s` with its four registers taken from a packed state (R26). -/
def unpackState (st : PackedState) (s : State) : State :=
  { s with
    snap := ⟨st.getLsbD 0, st.getLsbD 1, st.getLsbD 2⟩
    sticky := st.getLsbD 3
    out := ⟨st.getLsbD 7, st.getLsbD 6, st.getLsbD 5, st.getLsbD 4⟩
    halt := st.getLsbD 8 }

end Sys2Proof.Machine
end

