-- ==== Sys2Proof/WellFormed.lean ====
section
/-! DEFINITION. Which instruction terms the encodings of R44 and R112 admit. -/

namespace Sys2Proof

/-- A length code the Bus Endpoint can deliver: 0 to 8 (R42, R46). -/
def lenAdmitted (len : FrameLen) : Bool := decide (len.toNat ≤ Config.maxLen)

/-- Every operand is in the range its row of the class map gives it (R44); a frame on the ports or from `RECV` has an
admitted length (R13, R81). -/
def Instr.wellFormed : Instr → Bool
  | .upd len _ => decide (Config.minLen ≤ len.toNat) && lenAdmitted len
  | .nupShort len _ => decide (len.toNat < Config.minLen)
  | .nupId id len _ => (id != Config.ctrlId) && lenAdmitted len
  | .rsvLen _ len _ => !lenAdmitted len
  | .txdiag _ => true
  | .reset _ _ => true
  | .fault _ _ => true
  | .frame f => lenAdmitted f.len
  | .noEvent => true
  | .recv (.frame f) => lenAdmitted f.len
  | .recv .failed => true
  | .recv .waiting => true
  | .filtAll => true

end Sys2Proof
end

