-- ==== Sys2Proof/Safety.lean ====
section
/-! DEFINITION. The terms claims are made in: which states a run reaches (R25), what the lines can show (R79), what the
environment owes the block at startup (R100, R101), and which instructions are frame steps. -/

namespace Sys2Proof.Machine

/-! ## Reachable states -/

/-- `STICKY = NEXT(STICKY, SNAP)`: the latch is at a fixed point (R25). -/
abbrev Settled (s : State) : Prop := nextLatch s.sticky s.snap = s.sticky

/-- `OUT = LVL(MAP(STICKY, SNAP))` (R25, C1). -/
abbrev OutDriven (s : State) : Prop := s.out = lvl (mapOut s.sticky s.snap)

/-- No frame step has been taken since reset: the three registers of the frame step are as reset leaves them (R99, R105). -/
abbrev AtResetLevel (s : State) : Prop :=
  s.snap = Snapshot.atReset ∧ s.sticky = Config.stickyReset ∧ s.out = Lines.all Config.outResetHigh

/-- The invariant of every run (R25): the latch is settled, and the lines show the mapper's function of the state or
still have their reset level. -/
abbrev RunInvariant (s : State) : Prop := Settled s ∧ (OutDriven s ∨ AtResetLevel s)

/-- The 11 pairs `(STICKY, SNAP)` of R25, row by row. -/
def reachablePairs : List (Bool × Snapshot) := [
  (false, ⟨false, false, false⟩), (false, ⟨true, false, false⟩),
  (false, ⟨false, true, false⟩), (false, ⟨false, false, true⟩), (false, ⟨false, true, true⟩),
  (true, ⟨false, true, false⟩), (true, ⟨false, false, true⟩), (true, ⟨false, true, true⟩),
  (true, ⟨true, true, false⟩), (true, ⟨true, false, true⟩), (true, ⟨true, true, true⟩)]

/-- The five logical outputs a frame step can leave (R79). -/
def shownOutputs : List Outputs := [
  ⟨false, false, false, false⟩, ⟨false, false, true, false⟩, ⟨false, false, false, true⟩,
  ⟨false, false, true, true⟩, ⟨true, true, false, false⟩]

/-! ## Kinds of instructions -/

/-- The frame an instruction delivers to the block, if it delivers one (R13, R44, R81). -/
def deliveredFrame : Instr → Option Frame
  | .upd len data => some ⟨Config.ctrlId, len, data⟩
  | .nupShort len data => some ⟨Config.ctrlId, len, data⟩
  | .nupId id len data => some ⟨id, len, data⟩
  | .rsvLen id len data => some ⟨id, len, data⟩
  | .txdiag _ => none
  | .reset _ _ => none
  | .fault _ _ => none
  | .frame f => some f
  | .noEvent => none
  | .recv (.frame f) => some f
  | .recv .failed => none
  | .recv .waiting => none
  | .filtAll => none

/-- The instruction delivers a frame, and one for which `p` holds. -/
def delivers (i : Instr) (p : Frame → Bool) : Bool :=
  match deliveredFrame i with
  | some f => p f
  | none => false

/-- The instruction reports a bus failure (R87): `FAULT`, a failed receive, a failed diagnostic transmit. -/
def isBusFault : Instr → Bool
  | .upd _ _ => false
  | .nupShort _ _ => false
  | .nupId _ _ _ => false
  | .rsvLen _ _ _ => false
  | .txdiag .sent => false
  | .txdiag .failed => true
  | .reset _ _ => false
  | .fault _ _ => true
  | .frame _ => false
  | .noEvent => false
  | .recv (.frame _) => false
  | .recv .failed => true
  | .recv .waiting => false
  | .filtAll => false

/-- The instruction is the `Reset` event (R99). -/
def isReset : Instr → Bool
  | .upd _ _ => false
  | .nupShort _ _ => false
  | .nupId _ _ _ => false
  | .rsvLen _ _ _ => false
  | .txdiag _ => false
  | .reset _ _ => true
  | .fault _ _ => false
  | .frame _ => false
  | .noEvent => false
  | .recv _ => false
  | .filtAll => false

/-- The instruction is of class `RSV.LEN` (R56), the one row without a meaning. -/
def isReserved : Instr → Bool
  | .upd _ _ => false
  | .nupShort _ _ => false
  | .nupId _ _ _ => false
  | .rsvLen _ _ _ => true
  | .txdiag _ => false
  | .reset _ _ => false
  | .fault _ _ => false
  | .frame _ => false
  | .noEvent => false
  | .recv _ => false
  | .filtAll => false

/-! ## The environment's contract at startup -/

/-- What the loop may see once it runs (R100, R101): receives, frames, failures of the receive, silence; no second
`FILT_ALL` ("not reconfigured at runtime", R82), no second `TXDIAG` ("transmitted once", R83) and so no `TxFail` (R86). -/
def loopEvent : Instr → Bool
  | .upd _ _ => true
  | .nupShort _ _ => true
  | .nupId _ _ _ => true
  | .rsvLen _ _ _ => false
  | .txdiag _ => false
  | .reset _ _ => false
  | .fault .rxFail _ => true
  | .fault .txFail _ => false
  | .frame _ => true
  | .noEvent => true
  | .recv _ => true
  | .filtAll => false

/-- A power cycle past its startup, as R100 and R101 order it after `Reset`: `FILT_ALL`, then `TXDIAG`; if it was sent,
the loop, and if it failed, nothing more. An assumption about the environment; the step does not enforce it (log 21). -/
def properPowerCycle : List Instr → Bool
  | [.filtAll, .txdiag .failed] => true
  | .filtAll :: .txdiag .sent :: loop => loop.all (fun i => i.wellFormed && loopEvent i)
  | _ => false

end Sys2Proof.Machine
end

