-- ==== Sys2Proof/Certificates/Slice0/Obligations.lean ====
section
/-! DEFINITION. The statements for the provers. "Model's choice" names a log entry for every clause that is not the
spec's. -/

open Sys2Proof Sys2Proof.Machine

/-! ## The four functions -/

/-- R52: the selector compares all 11 identifier bits and takes any length from 2. -/
def Obligations.SelectorMatchesControlFrames : Prop :=
  ∀ f : Frame, sel f = true ↔ f.id = 0b01011010101#11 ∧ 2 ≤ f.len.toNat

/-- R44, R58: every (identifier, length) pair is in the class of its table row, and exactly the class `UPD` selects. -/
def Obligations.ClassMapAndSelectorTable : Prop :=
  ∀ (id : FrameId) (len : FrameLen) (data : Payload),
    classOf id len =
      (if len.toNat ≤ 8 then
        if id = 0x2D5#11 then (if len.toNat ≤ 1 then .nupShort else .upd) else .nupId
      else .rsvLen) ∧
    (len.toNat ≤ 8 → (sel ⟨id, len, data⟩ = true ↔ classOf id len = .upd))

/-- R59: the decoder takes bits 4, 6 and 7, which are the masked comparisons, has the eight results of its table, and is
always given payload byte 1. -/
def Obligations.BitFieldDecoderTakesThreeBits : Prop :=
  (∀ b : Byte, dec b = ⟨b.getLsbD 4, b.getLsbD 6, b.getLsbD 7⟩) ∧
  (∀ b : Byte, dec b = ⟨b &&& 0x10 != 0, b &&& 0x40 != 0, b &&& 0x80 != 0⟩) ∧
  (∀ b : Byte, dec b = dec (b &&& 0xD0)) ∧
  [0x00#8, 0x10#8, 0x40#8, 0x50#8, 0x80#8, 0x90#8, 0xC0#8, 0xD0#8].map dec =
    [⟨false, false, false⟩, ⟨true, false, false⟩, ⟨false, true, false⟩, ⟨true, true, false⟩,
     ⟨false, false, true⟩, ⟨true, false, true⟩, ⟨false, true, true⟩, ⟨true, true, true⟩] ∧
  (∀ (f : Frame) (s : State), f.len.toNat ≤ 8 → sel f = true → s.halt = false →
    ∃ t, exec (.frame f) s = .next t ∧ t.snap = dec f.data.b1)

/-- R66: the latch's three rules in priority order. -/
def Obligations.LatchPriorityRules : Prop :=
  ∀ s m u d : Bool,
    ((u || d) = false → nextLatch s ⟨m, u, d⟩ = false) ∧
    ((u || d) = true → m = true → nextLatch s ⟨m, u, d⟩ = true) ∧
    ((u || d) = true → m = false → nextLatch s ⟨m, u, d⟩ = s)

/-- R69, R68: the closed form, which fixes all 16 rows. -/
def Obligations.LatchClosedForm : Prop :=
  ∀ s m u d : Bool, nextLatch s ⟨m, u, d⟩ = ((u || d) && (m || s))

/-- R70: release, set, idempotence, hold. -/
def Obligations.LatchProperties : Prop :=
  (∀ s m : Bool, nextLatch s ⟨m, false, false⟩ = false) ∧
  (∀ s u d : Bool, (u || d) = true → nextLatch s ⟨true, u, d⟩ = true) ∧
  (∀ (s : Bool) (b : Snapshot), nextLatch (nextLatch s b) b = nextLatch s b) ∧
  (∀ s u d : Bool, (u || d) = true → nextLatch s ⟨false, u, d⟩ = s)

/-- R73: the mapper's four equations. -/
def Obligations.MapperEquations : Prop :=
  ∀ s m u d : Bool, mapOut s ⟨m, u, d⟩ =
    { led := s || m, play := s || m, next := u && !s, prev := d && !s }

/-- R79, R25: a settled latch shows one of five outputs, each of them occurs, and none of them is all-true. -/
def Obligations.SettledPairsShowFiveOutputs : Prop :=
  (∀ (s : Bool) (b : Snapshot), nextLatch s b = s ↔ (s, b) ∈ reachablePairs) ∧
  (∀ o : Outputs, o ∈ shownOutputs ↔ ∃ p ∈ reachablePairs, mapOut p.1 p.2 = o) ∧
  (∀ p ∈ reachablePairs, lvlWith true (mapOut p.1 p.2) ≠ Lines.all true)

/-- R75: one polarity for all four lines, whatever the open parameter is. -/
def Obligations.LevelsFollowPolarity : Prop :=
  ∀ led play next prev : Bool, lvl ⟨led, play, next, prev⟩ =
    if Config.trueIsHigh then ⟨led, play, next, prev⟩ else ⟨!led, !play, !next, !prev⟩

/-! ## Frames -/

/-- R51: the frame step, for every frame with an admitted length and every state. -/
def Obligations.FrameStep : Prop :=
  ∀ (f : Frame) (s : State), f.len.toNat ≤ 8 →
    exec (.frame f) s =
      if s.halt then .next s
      else
        let snap : Snapshot :=
          if f.id = 0x2D5#11 ∧ 2 ≤ f.len.toNat then dec f.data.b1 else s.snap
        let latch := nextLatch s.sticky snap
        .next { s with snap := snap, sticky := latch, out := lvl (mapOut latch snap) }

/-- R53: a matching frame replaces the whole snapshot from byte 1, then the latch, then the lines; nothing else changes,
and a halted block ignores it. -/
def Obligations.UpdLoadsButtons : Prop :=
  ∀ (len : FrameLen) (data : Payload) (s : State), 2 ≤ len.toNat → len.toNat ≤ 8 →
    decode (.rxf (wordOfFrame ⟨0x2D5, len, data⟩)) = .ok (.upd len data) ∧
    (s.halt = false →
      let m := data.b1.getLsbD 4
      let u := data.b1.getLsbD 6
      let d := data.b1.getLsbD 7
      let latch := (u || d) && (m || s.sticky)
      exec (.upd len data) s = .next { s with
        snap := ⟨m, u, d⟩
        sticky := latch
        out := lvl ⟨latch || m, latch || m, u && !latch, d && !latch⟩ }) ∧
    (s.halt = true → exec (.upd len data) s = .next s)

/-- R54: a frame with another identifier keeps the snapshot; the latch and the mapper run on it; a halted block ignores it. -/
def Obligations.NupIdKeepsSnapshot : Prop :=
  ∀ (id : FrameId) (len : FrameLen) (data : Payload) (s : State), id ≠ 0x2D5#11 → len.toNat ≤ 8 →
    decode (.rxf (wordOfFrame ⟨id, len, data⟩)) = .ok (.nupId id len data) ∧
    (s.halt = false →
      exec (.nupId id len data) s = .next { s with
        sticky := nextLatch s.sticky s.snap
        out := lvl (mapOut (nextLatch s.sticky s.snap) s.snap) }) ∧
    (s.halt = true → exec (.nupId id len data) s = .next s)

/-- R55: a control frame of length 0 or 1 decodes nothing; the same effect as R54. -/
def Obligations.NupShortKeepsSnapshot : Prop :=
  ∀ (len : FrameLen) (data : Payload) (s : State), len.toNat ≤ 1 →
    decode (.rxf (wordOfFrame ⟨0x2D5, len, data⟩)) = .ok (.nupShort len data) ∧
    (s.halt = false →
      exec (.nupShort len data) s = .next { s with
        sticky := nextLatch s.sticky s.snap
        out := lvl (mapOut (nextLatch s.sticky s.snap) s.snap) }) ∧
    (s.halt = true → exec (.nupShort len data) s = .next s)

/-- R56: a length code of 9 to 15 is refused in every state, in every form a frame can take. -/
def Obligations.ReservedLengthRefused : Prop :=
  ∀ (id : FrameId) (len : FrameLen) (data : Payload) (s : State), 9 ≤ len.toNat →
    decode (.rxf (wordOfFrame ⟨id, len, data⟩)) = .ok (.rsvLen id len data) ∧
    exec (.rsvLen id len data) s = .refused .reservedLength ∧
    exec (.frame ⟨id, len, data⟩) s = .refused .reservedLength ∧
    exec (.recv (.frame ⟨id, len, data⟩)) s = .refused .reservedLength

/-- R44, R51 to R56: the frame step of a frame on the ports is the meaning of the frame's own class. -/
def Obligations.FrameEventRunsItsClass : Prop :=
  ∀ (f : Frame) (s : State), exec (.frame f) s = exec (instrOfFrame f) s

/-- R77: both seek buttons with the latch idle pass through to both lines. -/
def Obligations.BothSeekButtonsPassThrough : Prop :=
  ∀ (len : FrameLen) (data : Payload) (s : State), 2 ≤ len.toNat → len.toNat ≤ 8 → s.halt = false →
    s.sticky = false → dec data.b1 = ⟨false, true, true⟩ →
    ∃ t, exec (.upd len data) s = .next t ∧ t.sticky = false ∧ t.out = lvl ⟨false, false, true, true⟩

/-- R60, R53: the old snapshot plays no part in an update. -/
def Obligations.UpdForgetsOldSnapshot : Prop :=
  ∀ (len : FrameLen) (data : Payload) (s : State) (old : Snapshot),
    (Instr.upd len data).wellFormed = true → s.halt = false →
    exec (.upd len data) { s with snap := old } = exec (.upd len data) s

/-- R62, U9: two matching frames that agree in bits 4, 6 and 7 of byte 1 have the same effect, and so have any two
non-matching frames, whatever their payloads, their lengths and the bytes beyond them. -/
def Obligations.IgnoredBitsHaveNoEffect : Prop :=
  ∀ (f g : Frame) (s : State), f.len.toNat ≤ 8 → g.len.toNat ≤ 8 →
    (sel f = true → sel g = true → f.data.b1 &&& 0xD0 = g.data.b1 &&& 0xD0 → exec (.frame f) s = exec (.frame g) s) ∧
    (sel f = false → sel g = false → exec (.frame f) s = exec (.frame g) s)

/-- R53, R70: a matching frame equal to the previous one changes nothing. -/
def Obligations.RepeatedFrameChangesNothing : Prop :=
  ∀ (f : Frame) (s t : State), exec (.frame f) s = .next t → exec (.frame f) t = .next t

/-- R102: the first frame step after reset, from every running state whose registers still have their reset level: the
state after reset, and the states that the startup operations and pending input leave (R100, R105). The reset value of
`SNAP` is D3 of the spec (log 9). -/
def Obligations.FirstFrameAfterReset : Prop :=
  ∀ (f : Frame) (s : State), AtResetLevel s → s.halt = false → f.len.toNat ≤ 8 →
    ∃ t, exec (.frame f) s = .next t ∧
      (sel f = true →
        t.snap = dec f.data.b1 ∧ t.sticky = nextLatch false (dec f.data.b1) ∧
        t.out = lvl (mapOut t.sticky t.snap)) ∧
      (sel f = false →
        t.snap = ⟨false, false, false⟩ ∧ t.sticky = false ∧ t.out = Lines.all (!Config.trueIsHigh))

/-! ## The exception, reset, silence, the endpoint's operations -/

/-- R91: entry sets `HALT` and keeps everything else, whatever the cause; from then on every frame and fault changes
nothing. -/
def Obligations.BusFaultHaltsForGood : Prop :=
  ∀ (c : BusFaultCause) (v : Bool) (s : State),
    exec (.fault c v) s = .next { s with halt := true } ∧
    (∀ f : Frame, f.len.toNat ≤ 8 → exec (.frame f) { s with halt := true } = .next { s with halt := true }) ∧
    (∀ (c' : BusFaultCause) (v' : Bool),
      exec (.fault c' v') { s with halt := true } = .next { s with halt := true })

/-- R99: reset gives all four registers their reset values, whatever they held, and so has the state after reset. -/
def Obligations.ResetValues : Prop :=
  (∀ (b v : Bool) (s : State), ∃ t, exec (.reset b v) s = .next t ∧
    t.snap = ⟨false, false, false⟩ ∧ t.sticky = false ∧ t.out = ⟨true, true, true, true⟩ ∧ t.halt = false) ∧
  State.reset.snap = ⟨false, false, false⟩ ∧ State.reset.sticky = false ∧
  State.reset.out = ⟨true, true, true, true⟩ ∧ State.reset.halt = false

/-- Model's choice (log 1, log 6, log 25): `Reset` gives the state after reset but keeps the events still to come. -/
def Obligations.ResetKeepsOnlyTheInput : Prop :=
  ∀ (b v : Bool) (s : State), exec (.reset b v) s = .next { State.reset with input := s.input }

/-- R13, R98: no event changes nothing, and neither does a step on a silent bus. -/
def Obligations.SilenceChangesNothing : Prop :=
  ∀ s : State, exec .noEvent s = .next s ∧ (s.input = [] → step s = .next s)

/-- R82: the filter programming changes no register. Its record, and that a halted block does not do it, are the model's
choice (log 6, log 7). -/
def Obligations.FilterProgrammingResult : Prop :=
  ∀ s : State,
    (s.halt = false →
      exec .filtAll s = .next { s with endpoint := { filterAll := true, sent := s.endpoint.sent } }) ∧
    (s.halt = true → exec .filtAll s = .next s)

/-- R83: the diagnostic frame is sent and no register changes, or the block halts with its registers as they were. The
record of sent frames, and that a halted block sends nothing, are the model's choice (log 6, log 7). -/
def Obligations.DiagnosticTransmitResult : Prop :=
  ∀ s : State,
    (s.halt = false →
      exec (.txdiag .sent) s = .next { s with
        endpoint := { filterAll := s.endpoint.filterAll, sent := s.endpoint.sent ++ [0x00140102030400000000] } }) ∧
    (s.halt = true → exec (.txdiag .sent) s = .next s) ∧
    exec (.txdiag .failed) s = .next { s with halt := true }

/-- R81: a completed receive is one event, a frame or a failure; a waiting one changes nothing. That the result is the
instruction's operand is the model's choice (log 4). -/
def Obligations.ReceiveIsOneEvent : Prop :=
  ∀ s : State,
    (∀ f : Frame, f.len.toNat ≤ 8 → ∃ t, exec (.recv (.frame f)) s = .next t ∧ exec (.frame f) s = .next t) ∧
    exec (.recv .failed) s = .next { s with halt := true } ∧
    exec (.recv .waiting) s = .next s

/-- R48: the diagnostic frame and its frame word. -/
def Obligations.DiagnosticFrameWord : Prop :=
  diagFrame.id = 0x001 ∧ diagFrame.len = 4 ∧ diagFrame.data.b0 = 0x01 ∧ diagFrame.data.b1 = 0x02 ∧
  diagFrame.data.b2 = 0x03 ∧ diagFrame.data.b3 = 0x04 ∧ wordOfFrame diagFrame = 0x001_4_0102_0304_0000_0000

/-- R41, R34, R48: a word whose fields are those of the diagnostic frame is `NUP.ID` when received and `TXDIAG` when
transmitted. That the transmit's result is the instruction's operand is the model's choice (log 5), and so is the last
clause, that a transmit request with any other word is rejected by name (log 2). -/
def Obligations.DirectionOfTheDiagnosticFrame : Prop :=
  ∀ (w : FrameWord) (r : TxResult),
    let f := frameOfWord w
    if f.id = 0x001 ∧ f.len = 4 ∧ f.data.b0 = 0x01 ∧ f.data.b1 = 0x02 ∧ f.data.b2 = 0x03 ∧ f.data.b3 = 0x04 then
      decode (.rxf w) = .ok (.nupId 0x001 4 f.data) ∧ decode (.txf w r) = .ok (.txdiag r)
    else decode (.txf w r) = .error (.notDiagFrame w)

/-- R46, D8: a frame of a kind that is never presented is refused by name. -/
def Obligations.ForeignFramesRefused : Prop :=
  ∀ (k : ForeignKind) (s : State) (rest : List Encoded), s.input = .foreign k :: rest →
    step s = .refused (.undecodable (.notStandardData k))

/-! ## Which instruction writes which register -/

/-- R60, R61, R14: only a delivered matching frame and reset write `SNAP`. -/
def Obligations.SnapshotWrites : Prop :=
  ∀ (i : Instr) (s t : State), i.wellFormed = true → exec i s = .next t →
    t.snap =
      if isReset i then ⟨false, false, false⟩
      else if s.halt then s.snap
      else
        match deliveredFrame i with
        | some f => if sel f then dec f.data.b1 else s.snap
        | none => s.snap

/-- R67: every frame step writes `STICKY` with `NEXT`, from the new snapshot; only reset also writes it. -/
def Obligations.LatchWrites : Prop :=
  ∀ (i : Instr) (s t : State), exec i s = .next t →
    t.sticky =
      if isReset i then false
      else if s.halt then s.sticky
      else if delivers i (fun _ => true) then nextLatch s.sticky t.snap
      else s.sticky

/-- R76: every frame step writes `OUT`, from the new latch and the new snapshot; only reset also writes it. -/
def Obligations.LineWrites : Prop :=
  ∀ (i : Instr) (s t : State), exec i s = .next t →
    t.out =
      if isReset i then ⟨true, true, true, true⟩
      else if s.halt then s.out
      else if delivers i (fun _ => true) then lvl (mapOut t.sticky t.snap)
      else s.out

/-- R17: `HALT` is set by a bus failure and by nothing else, cleared by reset and by nothing else; a halted block changes
no register on any other event. -/
def Obligations.HaltBit : Prop :=
  State.reset.halt = false ∧
  (∀ (i : Instr) (s t : State), exec i s = .next t → s.halt = false → (t.halt = true ↔ isBusFault i = true)) ∧
  (∀ (i : Instr) (s t : State), exec i s = .next t → s.halt = true → (t.halt = false ↔ isReset i = true)) ∧
  (∀ (i : Instr) (s t : State), exec i s = .next t → s.halt = true → isReset i = false →
    t.snap = s.snap ∧ t.sticky = s.sticky ∧ t.out = s.out ∧ t.halt = s.halt)

/-- R83, R48: the block transmits nothing but the diagnostic frame, and only for `TXDIAG`. The record is the model's
choice (log 6), and so is that a halted block sends nothing, a sent `TXDIAG` then leaves the record as it was (log 7). -/
def Obligations.OnlyTheDiagnosticFrameIsSent : Prop :=
  ∀ (i : Instr) (s t : State), exec i s = .next t →
    t.endpoint.sent =
      if isReset i then []
      else if i = .txdiag .sent ∧ s.halt = false then s.endpoint.sent ++ [0x00140102030400000000]
      else s.endpoint.sent

/-- R36, R47: no instruction reads or writes the events still to come. -/
def Obligations.MeaningsIgnoreTheInput : Prop :=
  ∀ (i : Instr) (s t : State) (pending : List Encoded), exec i s = .next t →
    t.input = s.input ∧ exec i { s with input := pending } = .next { t with input := pending }

/-- R27, R80: no event's effect depends on `OUT`. -/
def Obligations.LinesAreNeverReadBack : Prop :=
  ∀ (i : Instr) (s t : State) (o : Lines), exec i s = .next t →
    ∃ o', exec i { s with out := o } = .next { t with out := o' } ∧
      ((isReset i = true ∨ (s.halt = false ∧ delivers i (fun _ => true) = true)) → o' = t.out)

/-- R51, R87, R56: every well-formed instruction completes but `RSV.LEN`, which is refused; none faults. -/
def Obligations.WellFormedInstructionsComplete : Prop :=
  ∀ (i : Instr) (s : State), i.wellFormed = true →
    (isReserved i = false → ∃ t, exec i s = .next t) ∧
    (isReserved i = true → exec i s = .refused .reservedLength)

/-! ## Encoding -/

/-- R45: the frame word and its fields determine each other. -/
def Obligations.FrameWordRoundTrip : Prop :=
  (∀ f : Frame, frameOfWord (wordOfFrame f) = f) ∧ (∀ w : FrameWord, wordOfFrame (frameOfWord w) = w)

/-- R45, R112, R48: decoding an encoded well-formed instruction gives it back, with every operand. -/
def Obligations.DecodeOfEncode : Prop :=
  ∀ i : Instr, i.wellFormed = true → decode (encode i) = .ok i

/-- R44, R45: every 79-bit word is a frame of exactly one class; the decoded instruction is well formed and encodes to
the same word. -/
def Obligations.EncodeOfDecodedFrame : Prop :=
  ∀ w : FrameWord, ∃ i, decode (.rxf w) = .ok i ∧ i.wellFormed = true ∧ encode i = .rxf w

/-- R45: the 29 rows are pairwise disjoint, cover every 79-bit word, and agree with the class map of R44. -/
def Obligations.RowsPartitionTheFrameWords : Prop :=
  rxfRows.length = 29 ∧
  ∀ w : FrameWord, ∃ r ∈ rxfRows,
    rowHits w r = true ∧ r.cls = classOf (frameOfWord w).id (frameOfWord w).len ∧
    ∀ q ∈ rxfRows, rowHits w q = true → q = r

/-- R112: the event word's patterns, all eight values, with the frame word on the other ports. -/
def Obligations.EventWordTable : Prop :=
  ∀ (fw : FrameWord) (c : BusFaultCause),
    decode (.evt 0b100 fw c) = .ok (.reset false false) ∧ decode (.evt 0b101 fw c) = .ok (.reset false true) ∧
    decode (.evt 0b110 fw c) = .ok (.reset true false) ∧ decode (.evt 0b111 fw c) = .ok (.reset true true) ∧
    decode (.evt 0b010 fw c) = .ok (.fault c false) ∧ decode (.evt 0b011 fw c) = .ok (.fault c true) ∧
    decode (.evt 0b001 fw c) = .ok (.frame (frameOfWord fw)) ∧ decode (.evt 0b000 fw c) = .ok .noEvent

/-- A few words written out from the spec decode to the instruction they stand for (R45, R48, R112, and the vectors of
`95_test_vectors.md`). That a bare word is read in this way is the model's choice (log 3). -/
def Obligations.KnownWordsDecode : Prop :=
  decodeTableWord 80 0x2D520050000000000000 = some (.upd 2 (Payload.ofList [0x00, 0x50])) ∧
  decodeTableWord 80 0x2D51FF00000000000000 = some (.nupShort 1 (Payload.ofList [0xFF])) ∧
  decodeTableWord 80 0x2D48FFFFFFFFFFFFFFFF = some (.nupId 0x2D4 8 ⟨0xFF, 0xFF, 0xFF, 0xFF, 0xFF, 0xFF, 0xFF, 0xFF⟩) ∧
  decodeTableWord 80 0x2D590000000000000000 = some (.rsvLen 0x2D5 9 (Payload.ofList [])) ∧
  decodeTableWord 80 0x00140102030400000000 = some (.txdiag .sent) ∧
  decodeTableWord 8 0b100 = some (.reset false false) ∧
  decodeTableWord 8 0b010 = some (.fault .rxFail false) ∧
  decodeTableWord 8 0b001 = some (.frame ⟨0, 0, Payload.ofList []⟩) ∧
  decodeTableWord 8 0b000 = some .noEvent

/-- R26: the packed state, bit by bit, and its reset value. -/
def Obligations.PackedStateLayout : Prop :=
  (∀ s : State,
    (packState s).getLsbD 0 = s.snap.m ∧ (packState s).getLsbD 1 = s.snap.u ∧ (packState s).getLsbD 2 = s.snap.d ∧
    (packState s).getLsbD 3 = s.sticky ∧ (packState s).getLsbD 4 = s.out.prev ∧ (packState s).getLsbD 5 = s.out.next ∧
    (packState s).getLsbD 6 = s.out.play ∧ (packState s).getLsbD 7 = s.out.led ∧ (packState s).getLsbD 8 = s.halt) ∧
  packState State.reset = 0x0F0

/-- R26, R12: the packed state holds the four registers and nothing else. -/
def Obligations.PackedStateRoundTrip : Prop :=
  (∀ s : State, unpackState (packState s) s = s) ∧
  (∀ (st : PackedState) (s : State), packState (unpackState st s) = st)

/-- Model's choice of lexical detail (log 24): lines of R49 and R50 read as the events they stand for, and a frame is
written as the spec's example. -/
def Obligations.EventLinesReadAsTheirEvents : Prop :=
  readEvent "FRAME 0x2D5 2 [00 50]" = some (.frame ⟨0x2D5, 2, Payload.ofList [0x00, 0x50]⟩) ∧
  readEvent "FRAME 0x7FF 0 [] ; noise" = some (.frame (noise 0x7FF)) ∧
  readEvent "FRAME 0x2D5 9 []" = none ∧
  readEvent "BTN 1 0 1" = some (.frame ⟨0x2D5, 2, Payload.ofList [0x00, 0x90]⟩) ∧
  readEvent "FAULT TX" = some (.fault .txFail false) ∧
  readEvent "RESET" = some (.reset false false) ∧
  eventText (.frame ⟨0x2D5, 2, Payload.ofList [0x00, 0x50]⟩) = some "FRAME 0x2D5 2 [00 50]".toList

/-! ## Steps and runs -/

/-- A step takes the next input item off the sequence, decodes it and runs it (R38, R112; the sequence itself is the
model's choice, log 1): a decoded instruction runs, an undecodable item is refused, no item is no event. -/
def Obligations.StepRunsTheDecodedInstruction : Prop :=
  ∀ (s : State) (e : Encoded) (rest : List Encoded), s.input = e :: rest →
    (∀ i, decode e = .ok i → step s = exec i { s with input := rest }) ∧
    (∀ why, decode e = .error why → step s = .refused (.undecodable why))

/-- R90: on the ports, reset wins over a fault and a fault over a frame; the frame is then not even looked at. R112 and
R13: a frame alone is the frame step, and no port set is no event. That the ports' sample is an item of the input, which
the step takes off it (`input := rest`), is the model's choice (log 1). -/
def Obligations.PortPriority : Prop :=
  ∀ (b v : Bool) (fw : FrameWord) (c : BusFaultCause) (s : State) (rest : List Encoded),
    (s.input = .evt (eventWord true b v) fw c :: rest →
      ∃ t, step s = .next t ∧ t.snap = ⟨false, false, false⟩ ∧ t.sticky = false ∧ t.out = ⟨true, true, true, true⟩ ∧
        t.halt = false) ∧
    (s.input = .evt (eventWord false true v) fw c :: rest →
      step s = .next { s with halt := true, input := rest }) ∧
    (s.input = .evt (eventWord false false true) fw c :: rest →
      step s = exec (.frame (frameOfWord fw)) { s with input := rest }) ∧
    (s.input = .evt (eventWord false false false) fw c :: rest → step s = .next { s with input := rest })

/-- R25: the state after reset satisfies the invariant. -/
def Obligations.InvariantHoldsAtReset : Prop := RunInvariant State.reset

/-- R25: every step, from every state that satisfies the invariant and on every input, keeps it: the latch stays at a
fixed point and the lines show the mapper's function of the state or their reset level. -/
def Obligations.EveryStepKeepsTheInvariant : Prop :=
  ∀ s t : State, RunInvariant s → step s = .next t → RunInvariant t

/-- R25: exactly the 11 pairs of the table are reached from reset by some sequence of events. -/
def Obligations.ElevenReachablePairs : Prop :=
  ∀ p : Bool × Snapshot,
    (∃ (is : List Instr) (t : State),
      (∀ i ∈ is, i.wellFormed = true) ∧ run is State.reset = .next t ∧ (t.sticky, t.snap) = p) ↔
    p ∈ reachablePairs

/-- R79: after a frame step from a settled state the lines show one of five outputs; a set latch or a held mode shows
play; play is never shown together with next or prev. -/
def Obligations.LinesAfterAFrameStep : Prop :=
  ∀ (f : Frame) (s t : State), Settled s → s.halt = false → exec (.frame f) s = .next t →
    ∃ o ∈ shownOutputs, t.out = lvl o ∧ o.led = o.play ∧
      ((t.sticky = true ∨ t.snap.m = true) → o = ⟨true, true, false, false⟩) ∧
      (o.play = true → o.next = false ∧ o.prev = false)

/-- R106, R71, R103: once a frame step has been taken, any number of non-matching frames and silent steps changes
nothing. -/
def Obligations.BusLoadCannotDisturb : Prop :=
  ∀ (is : List Instr) (s : State), Settled s → OutDriven s →
    (∀ i ∈ is, i = .noEvent ∨ (i.wellFormed = true ∧ delivers i (fun f => !sel f && lenAdmitted f.len) = true)) →
    run is s = .next s

/-- R107, R72: while the latch is set, every sequence of frames in which each matching frame shows a seek button keeps it
set, and the lines show play only after each of them. Silent events between the frames are left out here: they change
nothing (`SilenceChangesNothing`). The observed list has the value of `OUT` before the first event as its head (log 26). -/
def Obligations.SeekIsSwallowedWhileSticky : Prop :=
  ∀ (is : List Instr) (s : State), Settled s → s.sticky = true → s.halt = false →
    (∀ i ∈ is, i.wellFormed = true ∧
      delivers i (fun f => lenAdmitted f.len && (!sel f || (dec f.data.b1).seekAny)) = true) →
    ∃ t, run is s = .next t ∧ t.sticky = true ∧ t.halt = false ∧
      observe is s = s.out :: List.replicate is.length (lvl ⟨true, true, false, false⟩)

/-- R72: from a settled state the latch is set only by a matching frame that shows mode and a seek button together. -/
def Obligations.LatchIsSetOnlyByACombination : Prop :=
  ∀ (i : Instr) (s t : State), i.wellFormed = true → Settled s → exec i s = .next t →
    s.sticky = false → t.sticky = true →
    delivers i (fun f => sel f && (dec f.data.b1).m && (dec f.data.b1).seekAny) = true

/-- R92, R17: no sequence of events without a reset ends a halt or changes anything during it; a reset ends it. -/
def Obligations.OnlyResetEndsAHalt : Prop :=
  ∀ (is : List Instr) (s : State), s.halt = true →
    (∀ i ∈ is, i.wellFormed = true ∧ isReset i = false ∧ isReserved i = false) →
    run is s = .next s ∧
    ∀ b v : Bool, ∃ t, run (is ++ [.reset b v]) s = .next t ∧ t.halt = false

/-- R83, R100, R101: in every power cycle that keeps the startup contract the diagnostic frame is sent exactly once, the
filter is programmed, and a failed transmit leaves a halted block with its reset values, the lines high. The record of
both operations and the contract are the model's (log 6, log 21). -/
def Obligations.ProperPowerCycleSendsOnce : Prop :=
  ∀ is : List Instr, properPowerCycle is = true →
    ∃ t, run is State.reset = .next t ∧ t.endpoint.filterAll = true ∧
      ((t.endpoint.sent = [0x00140102030400000000]) ∨
       (is = [.filtAll, .txdiag .failed] ∧ t.endpoint.sent = [] ∧ t.halt = true ∧
        t.snap = ⟨false, false, false⟩ ∧ t.sticky = false ∧ t.out = ⟨true, true, true, true⟩))

/-- R36, R38: stepping through a delivered sequence of encoded instructions is the run of those instructions, one event
each, in order, whatever comes after them. The input sequence that the steps take them from is the model's choice
(log 1). -/
def Obligations.SteppingIsRunning : Prop :=
  ∀ (is : List Instr) (s : State) (rest : List Encoded), (∀ i ∈ is, i.wellFormed = true) →
    Host.Core.run Sys2Proof.core is.length { s with input := is.map encode ++ rest } =
      run is { s with input := rest }
end

