-- ==== Sys2Proof/Laws/Decode.lean ====
section
/-! SUPPORT. The class map and the checks on operands in the form later proofs use: plain inequalities on the length code
and the identifier. -/

namespace Sys2Proof

/-- The value of `CTRL_ID` (R7), for rewriting. -/
theorem Config.ctrlId_eq : Config.ctrlId = 0x2D5 := rfl

@[simp] theorem lenAdmitted_iff (len : FrameLen) : lenAdmitted len = true ↔ len.toNat ≤ 8 := decide_eq_true_iff

theorem lenAdmitted_eq_false_iff (len : FrameLen) : lenAdmitted len = false ↔ 8 < len.toNat := by
  rw [← Bool.not_eq_true, lenAdmitted_iff, Nat.not_le]

theorem wellFormed_upd_iff (len : FrameLen) (data : Payload) :
    (Instr.upd len data).wellFormed = true ↔ 2 ≤ len.toNat ∧ len.toNat ≤ 8 := by
  rw [Instr.wellFormed, Bool.and_eq_true, lenAdmitted_iff, decide_eq_true_iff]

theorem wellFormed_nupShort_iff (len : FrameLen) (data : Payload) :
    (Instr.nupShort len data).wellFormed = true ↔ len.toNat < 2 := by
  rw [Instr.wellFormed, decide_eq_true_iff]

theorem wellFormed_nupId_iff (id : FrameId) (len : FrameLen) (data : Payload) :
    (Instr.nupId id len data).wellFormed = true ↔ id ≠ 0x2D5 ∧ len.toNat ≤ 8 := by
  rw [Instr.wellFormed, Bool.and_eq_true, lenAdmitted_iff, bne_iff_ne, Config.ctrlId_eq]

theorem wellFormed_rsvLen_iff (id : FrameId) (len : FrameLen) (data : Payload) :
    (Instr.rsvLen id len data).wellFormed = true ↔ 8 < len.toNat := by
  rw [Instr.wellFormed, Bool.not_eq_true', lenAdmitted_eq_false_iff]

theorem classOf_upd {len : FrameLen} (h2 : 2 ≤ len.toNat) (h8 : len.toNat ≤ 8) : classOf 0x2D5 len = .upd := by
  have hmax : ¬ Config.maxLen < len.toNat := Nat.not_lt.mpr h8
  have hmin : ¬ len.toNat < Config.minLen := Nat.not_lt.mpr h2
  rw [classOf, Config.ctrlId_eq, if_neg hmax, if_neg (not_not_intro rfl), if_neg hmin]

theorem classOf_nupShort {len : FrameLen} (h : len.toNat < 2) : classOf 0x2D5 len = .nupShort := by
  have hmax : ¬ Config.maxLen < len.toNat := by simp only [Config.maxLen]; omega
  have hmin : len.toNat < Config.minLen := h
  rw [classOf, Config.ctrlId_eq, if_neg hmax, if_neg (not_not_intro rfl), if_pos hmin]

theorem classOf_nupId {id : FrameId} {len : FrameLen} (hid : id ≠ 0x2D5) (h8 : len.toNat ≤ 8) :
    classOf id len = .nupId := by
  have hmax : ¬ Config.maxLen < len.toNat := Nat.not_lt.mpr h8
  have hctrl : id ≠ Config.ctrlId := hid
  rw [classOf, if_neg hmax, if_pos hctrl]

theorem classOf_rsvLen {id : FrameId} {len : FrameLen} (h : 8 < len.toNat) : classOf id len = .rsvLen := by
  have hmax : Config.maxLen < len.toNat := h
  rw [classOf, if_pos hmax]

/-! ## The instruction of a received frame -/

theorem instrOfFrame_upd {len : FrameLen} {data : Payload} (h2 : 2 ≤ len.toNat) (h8 : len.toNat ≤ 8) :
    instrOfFrame ⟨0x2D5, len, data⟩ = .upd len data := by simp only [instrOfFrame, classOf_upd h2 h8]

theorem instrOfFrame_nupShort {len : FrameLen} {data : Payload} (h : len.toNat < 2) :
    instrOfFrame ⟨0x2D5, len, data⟩ = .nupShort len data := by simp only [instrOfFrame, classOf_nupShort h]

theorem instrOfFrame_nupId {id : FrameId} {len : FrameLen} {data : Payload} (hid : id ≠ 0x2D5) (h8 : len.toNat ≤ 8) :
    instrOfFrame ⟨id, len, data⟩ = .nupId id len data := by simp only [instrOfFrame, classOf_nupId hid h8]

theorem instrOfFrame_rsvLen {id : FrameId} {len : FrameLen} {data : Payload} (h : 8 < len.toNat) :
    instrOfFrame ⟨id, len, data⟩ = .rsvLen id len data := by simp only [instrOfFrame, classOf_rsvLen h]

end Sys2Proof
end

