-- ==== Sys2Proof/Laws/State.lean ====
section
/-! SUPPORT. One lemma per field per register write, true by `rfl`, so that no later proof unfolds a record update; and
the fields of the reset state. -/

namespace Sys2Proof.Machine

section Writes
variable (s : State)

@[simp] theorem setSnap_snap (v : Snapshot) : (s.setSnap v).snap = v := rfl
@[simp] theorem setSnap_sticky (v : Snapshot) : (s.setSnap v).sticky = s.sticky := rfl
@[simp] theorem setSnap_out (v : Snapshot) : (s.setSnap v).out = s.out := rfl
@[simp] theorem setSnap_halt (v : Snapshot) : (s.setSnap v).halt = s.halt := rfl
@[simp] theorem setSnap_endpoint (v : Snapshot) : (s.setSnap v).endpoint = s.endpoint := rfl
@[simp] theorem setSnap_input (v : Snapshot) : (s.setSnap v).input = s.input := rfl

@[simp] theorem setSticky_snap (v : Bool) : (s.setSticky v).snap = s.snap := rfl
@[simp] theorem setSticky_sticky (v : Bool) : (s.setSticky v).sticky = v := rfl
@[simp] theorem setSticky_out (v : Bool) : (s.setSticky v).out = s.out := rfl
@[simp] theorem setSticky_halt (v : Bool) : (s.setSticky v).halt = s.halt := rfl
@[simp] theorem setSticky_endpoint (v : Bool) : (s.setSticky v).endpoint = s.endpoint := rfl
@[simp] theorem setSticky_input (v : Bool) : (s.setSticky v).input = s.input := rfl

@[simp] theorem setOut_snap (v : Lines) : (s.setOut v).snap = s.snap := rfl
@[simp] theorem setOut_sticky (v : Lines) : (s.setOut v).sticky = s.sticky := rfl
@[simp] theorem setOut_out (v : Lines) : (s.setOut v).out = v := rfl
@[simp] theorem setOut_halt (v : Lines) : (s.setOut v).halt = s.halt := rfl
@[simp] theorem setOut_endpoint (v : Lines) : (s.setOut v).endpoint = s.endpoint := rfl
@[simp] theorem setOut_input (v : Lines) : (s.setOut v).input = s.input := rfl

@[simp] theorem setHalt_snap (v : Bool) : (s.setHalt v).snap = s.snap := rfl
@[simp] theorem setHalt_sticky (v : Bool) : (s.setHalt v).sticky = s.sticky := rfl
@[simp] theorem setHalt_out (v : Bool) : (s.setHalt v).out = s.out := rfl
@[simp] theorem setHalt_halt (v : Bool) : (s.setHalt v).halt = v := rfl
@[simp] theorem setHalt_endpoint (v : Bool) : (s.setHalt v).endpoint = s.endpoint := rfl
@[simp] theorem setHalt_input (v : Bool) : (s.setHalt v).input = s.input := rfl

@[simp] theorem setEndpoint_snap (v : Endpoint) : (s.setEndpoint v).snap = s.snap := rfl
@[simp] theorem setEndpoint_sticky (v : Endpoint) : (s.setEndpoint v).sticky = s.sticky := rfl
@[simp] theorem setEndpoint_out (v : Endpoint) : (s.setEndpoint v).out = s.out := rfl
@[simp] theorem setEndpoint_halt (v : Endpoint) : (s.setEndpoint v).halt = s.halt := rfl
@[simp] theorem setEndpoint_endpoint (v : Endpoint) : (s.setEndpoint v).endpoint = v := rfl
@[simp] theorem setEndpoint_input (v : Endpoint) : (s.setEndpoint v).input = s.input := rfl

@[simp] theorem setInput_snap (v : List Encoded) : (s.setInput v).snap = s.snap := rfl
@[simp] theorem setInput_sticky (v : List Encoded) : (s.setInput v).sticky = s.sticky := rfl
@[simp] theorem setInput_out (v : List Encoded) : (s.setInput v).out = s.out := rfl
@[simp] theorem setInput_halt (v : List Encoded) : (s.setInput v).halt = s.halt := rfl
@[simp] theorem setInput_endpoint (v : List Encoded) : (s.setInput v).endpoint = s.endpoint := rfl
@[simp] theorem setInput_input (v : List Encoded) : (s.setInput v).input = v := rfl

/-- Halting a halted state changes nothing (R92). -/
theorem setHalt_true_of_halted (h : s.halt = true) : s.setHalt true = s := by
  cases s; simp_all [State.setHalt]

end Writes

@[simp] theorem reset_snap : State.reset.snap = ⟨false, false, false⟩ := rfl
@[simp] theorem reset_sticky : State.reset.sticky = false := rfl
@[simp] theorem reset_out : State.reset.out = ⟨true, true, true, true⟩ := rfl
@[simp] theorem reset_halt : State.reset.halt = false := rfl
@[simp] theorem reset_endpoint : State.reset.endpoint = ⟨false, []⟩ := rfl
@[simp] theorem reset_input : State.reset.input = [] := rfl

end Sys2Proof.Machine
end

