-- ==== Sys2Proof/Laws/Ops.lean ====
section
/-! SUPPORT. For each shared operation, once, everything it can do; later proofs cite these and do not unfold it. -/

namespace Sys2Proof.Machine

/-! ## The payload read and the selector -/

/-- Byte 1 exists exactly when the payload has at least 2 bytes (R32). -/
theorem memRead_byteIdx (f : Frame) :
    memRead f Config.byteIdx = if 2 ≤ f.len.toNat then some f.data.b1 else none := by
  simp only [memRead, Config.byteIdx, Payload.byte?]
  split <;> split <;> first | rfl | omega

/-- A selected frame has a byte 1 (R60). -/
theorem memRead_of_sel {f : Frame} (h : sel f = true) : memRead f Config.byteIdx = some f.data.b1 := by
  have hl : 2 ≤ f.len.toNat := of_decide_eq_true ((Bool.and_eq_true _ _).mp h).2
  rw [memRead_byteIdx, if_pos hl]

/-! ## The halt guard -/

@[simp] theorem ifRunning_running {s : State} (h : s.halt = false) (k : Result) : ifRunning s k = k := by
  simp [ifRunning, h]

@[simp] theorem ifRunning_halted {s : State} (h : s.halt = true) (k : Result) : ifRunning s k = .next s := by
  simp [ifRunning, h]

/-- What a guarded meaning can do. -/
theorem ifRunning_cases (s : State) (k : Result) :
    (s.halt = true ∧ ifRunning s k = .next s) ∨ (s.halt = false ∧ ifRunning s k = k) := by
  cases h : s.halt
  · exact .inr ⟨rfl, ifRunning_running h k⟩
  · exact .inl ⟨rfl, ifRunning_halted h k⟩

/-! ## The frame step -/

@[simp] theorem pipeline_snap (s : State) (b : Snapshot) : (pipeline s b).snap = b := rfl
@[simp] theorem pipeline_sticky (s : State) (b : Snapshot) : (pipeline s b).sticky = nextLatch s.sticky b := rfl
@[simp] theorem pipeline_out (s : State) (b : Snapshot) :
    (pipeline s b).out = lvl (mapOut (nextLatch s.sticky b) b) := rfl
@[simp] theorem pipeline_halt (s : State) (b : Snapshot) : (pipeline s b).halt = s.halt := rfl
@[simp] theorem pipeline_endpoint (s : State) (b : Snapshot) : (pipeline s b).endpoint = s.endpoint := rfl
@[simp] theorem pipeline_input (s : State) (b : Snapshot) : (pipeline s b).input = s.input := rfl

/-- The "update" result of a frame with a byte 1 (R60). -/
theorem updateFrom_of_len {f : Frame} (h : 2 ≤ f.len.toNat) (s : State) :
    updateFrom f s = .next (pipeline s (dec f.data.b1)) := by
  simp [updateFrom, memRead_byteIdx, h]

/-- Everything the frame step can do (R51, R56): refuse a reserved length, do nothing when halted, update, or retain. -/
theorem frameStep_cases (f : Frame) (s : State) :
    (8 < f.len.toNat ∧ frameStep f s = .refused .reservedLength) ∨
    (f.len.toNat ≤ 8 ∧ s.halt = true ∧ frameStep f s = .next s) ∨
    (f.len.toNat ≤ 8 ∧ s.halt = false ∧ sel f = true ∧ frameStep f s = .next (pipeline s (dec f.data.b1))) ∨
    (f.len.toNat ≤ 8 ∧ s.halt = false ∧ sel f = false ∧ frameStep f s = .next (pipeline s s.snap)) := by
  rcases Nat.lt_or_ge 8 f.len.toNat with hl | hl
  · exact .inl ⟨hl, by simp [frameStep, Config.maxLen, hl]⟩
  · have hl' : ¬ Config.maxLen < f.len.toNat := by simpa [Config.maxLen] using hl
    rcases ifRunning_cases s (if sel f then updateFrom f s else retain s) with ⟨hh, e⟩ | ⟨hh, e⟩
    · exact .inr (.inl ⟨hl, hh, by simp [frameStep, hl', hh]⟩)
    · cases hs : sel f
      · exact .inr (.inr (.inr ⟨hl, hh, rfl, by simp [frameStep, hl', hh, hs, retain]⟩))
      · refine .inr (.inr (.inl ⟨hl, hh, rfl, ?_⟩))
        simp [frameStep, hl', hh, hs, updateFrom, memRead_of_sel hs]

/-! ## The exception, the reset, the endpoint's record -/

@[simp] theorem raiseBusFault_eq (c : BusFaultCause) (s : State) : raiseBusFault c s = s.setHalt true := rfl

@[simp] theorem powerOnReset_snap (s : State) : (powerOnReset s).snap = ⟨false, false, false⟩ := rfl
@[simp] theorem powerOnReset_sticky (s : State) : (powerOnReset s).sticky = false := rfl
@[simp] theorem powerOnReset_out (s : State) : (powerOnReset s).out = ⟨true, true, true, true⟩ := rfl
@[simp] theorem powerOnReset_halt (s : State) : (powerOnReset s).halt = false := rfl
@[simp] theorem powerOnReset_endpoint (s : State) : (powerOnReset s).endpoint = ⟨false, []⟩ := rfl
@[simp] theorem powerOnReset_input (s : State) : (powerOnReset s).input = s.input := rfl

@[simp] theorem programFilter_snap (s : State) : (programFilter s).snap = s.snap := rfl
@[simp] theorem programFilter_sticky (s : State) : (programFilter s).sticky = s.sticky := rfl
@[simp] theorem programFilter_out (s : State) : (programFilter s).out = s.out := rfl
@[simp] theorem programFilter_halt (s : State) : (programFilter s).halt = s.halt := rfl
@[simp] theorem programFilter_endpoint (s : State) : (programFilter s).endpoint = ⟨true, s.endpoint.sent⟩ := rfl
@[simp] theorem programFilter_input (s : State) : (programFilter s).input = s.input := rfl

@[simp] theorem transmit_snap (f : Frame) (s : State) : (transmit f s).snap = s.snap := rfl
@[simp] theorem transmit_sticky (f : Frame) (s : State) : (transmit f s).sticky = s.sticky := rfl
@[simp] theorem transmit_out (f : Frame) (s : State) : (transmit f s).out = s.out := rfl
@[simp] theorem transmit_halt (f : Frame) (s : State) : (transmit f s).halt = s.halt := rfl
@[simp] theorem transmit_endpoint (f : Frame) (s : State) :
    (transmit f s).endpoint = ⟨s.endpoint.filterAll, s.endpoint.sent ++ [wordOfFrame f]⟩ := rfl
@[simp] theorem transmit_input (f : Frame) (s : State) : (transmit f s).input = s.input := rfl

/-! ## Fetch and run -/

@[simp] theorem fetch_of_input_nil {s : State} (h : s.input = []) : fetch s = none := by simp [fetch, h]

@[simp] theorem fetch_of_input_cons {s : State} {e : Encoded} {rest : List Encoded} (h : s.input = e :: rest) :
    fetch s = some (e, s.setInput rest) := by simp [fetch, h]

@[simp] theorem setHead_input (s : State) (e : Encoded) : (s.setHead e).input = e :: s.input.tail := rfl

@[simp] theorem run_nil (s : State) : run [] s = .next s := rfl

/-- A run whose first event answers a next state goes on from there. -/
theorem run_cons_of_next {i : Instr} {s t : State} (h : exec i s = .next t) (is : List Instr) :
    run (i :: is) s = run is t := by simp [run, h]

/-- A run that ends in a next state took its first event to a next state. -/
theorem exec_next_of_run_cons {i : Instr} {is : List Instr} {s u : State} (h : run (i :: is) s = .next u) :
    ∃ t, exec i s = .next t ∧ run is t = .next u := by
  simp only [run] at h
  split at h
  · exact ⟨_, by assumption, h⟩
  · cases h
  · cases h

end Sys2Proof.Machine
end

