-- ==== Sys2Proof/Laws/PerInstr.lean ====
section
/-! SUPPORT. Facts about every instruction as syntax, one lemma per constructor. -/

namespace Sys2Proof.Laws

/-- The encoder writes each instruction in the format the table gives its row (R45, R112). -/
def EncodedFormat.Statement (i : Instr) : Prop := (encode i).format? = some i.format

theorem EncodedFormat.upd (len : FrameLen) (data : Payload) : EncodedFormat.Statement (.upd len data) := rfl
theorem EncodedFormat.nupShort (len : FrameLen) (data : Payload) : EncodedFormat.Statement (.nupShort len data) := rfl
theorem EncodedFormat.nupId (id : FrameId) (len : FrameLen) (data : Payload) :
    EncodedFormat.Statement (.nupId id len data) := rfl
theorem EncodedFormat.rsvLen (id : FrameId) (len : FrameLen) (data : Payload) :
    EncodedFormat.Statement (.rsvLen id len data) := rfl
theorem EncodedFormat.txdiag (result : TxResult) : EncodedFormat.Statement (.txdiag result) := rfl
theorem EncodedFormat.reset (busFault fValid : Bool) : EncodedFormat.Statement (.reset busFault fValid) := rfl
theorem EncodedFormat.fault (cause : BusFaultCause) (fValid : Bool) :
    EncodedFormat.Statement (.fault cause fValid) := rfl
theorem EncodedFormat.frame (f : Frame) : EncodedFormat.Statement (.frame f) := rfl
theorem EncodedFormat.noEvent : EncodedFormat.Statement .noEvent := rfl
theorem EncodedFormat.recv (result : RecvResult) : EncodedFormat.Statement (.recv result) := rfl
theorem EncodedFormat.filtAll : EncodedFormat.Statement .filtAll := rfl

end Sys2Proof.Laws
end

