-- ==== Sys2Proof/Laws/Steps.lean ====
section
/-! SUPPORT. How a number of steps of the host's machine unfolds, one step at a time. -/

namespace Sys2Proof.Machine

/-- A step that answers a next state is followed by the remaining steps from there. -/
theorem hostRun_of_next (M : Host.Core) {k : Nat} {s t : M.State} (h : M.step s = .next t) :
    M.run (k + 1) s = M.run k t := by
  simp only [Host.Core.run, h]

/-- A refused step ends the run. -/
theorem hostRun_of_refused (M : Host.Core) {k : Nat} {s : M.State} {r : M.Refusal} (h : M.step s = .refused r) :
    M.run (k + 1) s = .refused r := by
  simp only [Host.Core.run, h]

/-- `hostRun_of_next` for this block. -/
theorem coreRun_of_next {k : Nat} {s t : State} (h : step s = .next t) :
    Host.Core.run Sys2Proof.core (k + 1) s = Host.Core.run Sys2Proof.core k t :=
  hostRun_of_next Sys2Proof.core h

/-- `hostRun_of_refused` for this block. -/
theorem coreRun_of_refused {k : Nat} {s : State} {r : Refusal} (h : step s = .refused r) :
    Host.Core.run Sys2Proof.core (k + 1) s = .refused r :=
  hostRun_of_refused Sys2Proof.core h

end Sys2Proof.Machine
end

