-- ==== Sys2Proof/Tests/Slice0.lean ====
section
/-! SUPPORT. Tests whose expected results are the spec's (the vector is named in each comment), the well-formedness smoke
test, words written out from the spec's encodings, and for every statement with hypotheses a witness that meets them. -/

namespace Sys2Proof.Tests

open Sys2Proof.Machine

/-! ## Helpers -/

/-- A state after a frame step with the given latch and snapshot: the lines show the mapper's function of them. -/
def stateOf (sticky : Bool) (snap : Snapshot) : State :=
  { State.reset with snap := snap, sticky := sticky, out := lvl (mapOut sticky snap) }

/-- The same, halted. -/
def haltedOf (sticky : Bool) (snap : Snapshot) : State := (stateOf sticky snap).setHalt true

/-- A state that still has this input to come. -/
def withInput (s : State) (es : List Encoded) : State := s.setInput es

/-- The latch and the snapshot of a next state. -/
def pairOf : Result → Option (Bool × Snapshot)
  | .next t => some (t.sticky, t.snap)
  | _ => none

/-- The lines of a next state. -/
def outOf : Result → Option Lines
  | .next t => some t.out
  | _ => none

/-- The halt bit of a next state. -/
def haltOf : Result → Option Bool
  | .next t => some t.halt
  | _ => none

def noButtons : Snapshot := ⟨false, false, false⟩
def ffPayload : Payload := ⟨0xFF, 0xFF, 0xFF, 0xFF, 0xFF, 0xFF, 0xFF, 0xFF⟩
def bytes (bs : List Byte) : Payload := Payload.ofList bs

/-! ## The parameters (R7) -/

theorem test_parameter_constraints :
    [Config.modeBit, Config.upBit, Config.downBit].Nodup ∧ Config.modeBit < 8 ∧ Config.upBit < 8 ∧ Config.downBit < 8 ∧
      Config.byteIdx < Config.minLen ∧ Config.minLen ≤ Config.maxLen ∧ Config.ctrlId.toNat < 2 ^ Config.idWidth ∧
      Config.ctrlId = 0b01011010101 ∧ Config.diagData.length = Config.diagLen.toNat := by decide

/-! ## Well-formedness: one ill-formed term for each check -/

theorem test_wf_upd_too_short : (Instr.upd 1 ffPayload).wellFormed = false := by decide
theorem test_wf_upd_reserved_length : (Instr.upd 9 ffPayload).wellFormed = false := by decide
theorem test_wf_nupShort_too_long : (Instr.nupShort 2 ffPayload).wellFormed = false := by decide
theorem test_wf_nupId_control_id : (Instr.nupId 0x2D5 8 ffPayload).wellFormed = false := by decide
theorem test_wf_nupId_reserved_length : (Instr.nupId 0x123 15 ffPayload).wellFormed = false := by decide
theorem test_wf_rsvLen_admitted_length : (Instr.rsvLen 0x2D5 8 ffPayload).wellFormed = false := by decide
theorem test_wf_frame_reserved_length : (Instr.frame ⟨0x2D5, 9, ffPayload⟩).wellFormed = false := by decide
theorem test_wf_recv_reserved_length : (Instr.recv (.frame ⟨0x2D5, 9, ffPayload⟩)).wellFormed = false := by decide

/-! ## Words written out from R45, R48 and R112 -/

/-- S1 and the example of R45: `01011010101 ‖ 0010 ‖ 00 ‖ 0101_0000 ‖ 0…`. -/
theorem test_decode_upd :
    decode (.rxf 0b01011010101_0010_00000000_01010000_000000000000000000000000000000000000000000000000) =
      .ok (.upd 2 (bytes [0x00, 0x50])) := by rfl

/-- S2: the longest matching frame. -/
theorem test_decode_upd_len8 : decode (.rxf 0x2D5_8_FF10_FFFF_FFFF_FFFF) = .ok (.upd 8 ⟨0xFF, 0x10, 0xFF, 0xFF, 0xFF, 0xFF, 0xFF, 0xFF⟩) := by
  rfl

/-- S4: one byte short. -/
theorem test_decode_nupShort :
    decode (.rxf 0b01011010101_0001_11111111_00000000_000000000000000000000000000000000000000000000000) =
      .ok (.nupShort 1 (bytes [0xFF])) := by rfl

/-- S6, S7, S8: an identifier that differs from `0x2D5` in one bit, for each of the 11 bits. -/
theorem test_decode_nupId_one_bit_off :
    [0x2D4, 0x2D7, 0x2D1, 0x2DD, 0x2C5, 0x2F5, 0x295, 0x255, 0x3D5, 0x0D5, 0x6D5].all
      (fun id => classOf id 8 == .nupId) = true := by decide

/-- S9 to S13. -/
theorem test_decode_nupId_others :
    [(0x000, 8), (0x7FF, 8), (0x001, 4), (0x52A, 2), (0x5D2, 2)].all
      (fun p : FrameId × FrameLen => classOf p.1 p.2 == .nupId) = true := by decide

/-- S14, S15: reserved lengths. -/
theorem test_decode_rsvLen :
    decode (.rxf 0b01011010101_1001_00000000_00000000_000000000000000000000000000000000000000000000000) =
      .ok (.rsvLen 0x2D5 9 (bytes [])) ∧
    decode (.rxf 0x123_F_0000_0000_0000_0000) = .ok (.rsvLen 0x123 15 (bytes [])) := ⟨rfl, rfl⟩

/-- R48: the transmitted frame, and one bit off it. -/
theorem test_decode_txdiag :
    decode (.txf 0b00000000001_0100_00000001_00000010_00000011_00000100_00000000000000000000000000000000 .sent) =
      .ok (.txdiag .sent) ∧
    decode (.txf 0x001_4_0102_0305_0000_0000 .sent) = .error (.notDiagFrame 0x001_4_0102_0305_0000_0000) :=
  ⟨by decide, by decide⟩

/-- P2 step 1: the same frame when received is `NUP.ID` (R41). -/
theorem test_decode_diag_frame_received :
    decode (.rxf 0x001_4_0102_0304_0000_0000) = .ok (.nupId 1 4 (bytes [1, 2, 3, 4])) := by rfl

/-- R112: one word of each pattern; `110` is reset although a fault coincides, `011` a fault although a frame does. -/
theorem test_decode_events :
    decode (.evt 0b110 0 .rxFail) = .ok (.reset true false) ∧ decode (.evt 0b011 0 .txFail) = .ok (.fault .txFail true) ∧
    decode (.evt 0b001 0x2D5_2_0050_0000_0000_0000 .rxFail) = .ok (.frame ⟨0x2D5, 2, bytes [0x00, 0x50]⟩) ∧
    decode (.evt 0b000 0 .rxFail) = .ok .noEvent := ⟨rfl, rfl, rfl, rfl⟩

/-- The items without an encoding, and a foreign frame (R46). -/
theorem test_decode_unencoded :
    decode (.recv .waiting) = .ok (.recv .waiting) ∧ decode .filtAll = .ok .filtAll ∧
    decode (.foreign .extendedId) = .error (.notStandardData .extendedId) := ⟨rfl, rfl, rfl⟩

/-- A table word placed where the next fetch takes it is what the first step after reset runs (S1). -/
theorem test_withFetchWord_runs :
    pairOf (step (State.reset.withFetchWord 80 0x2D5_2_0050_0000_0000_0000)) = some (true, ⟨true, true, false⟩) := by rfl

/-! ## The four functions -/

/-- B1 to B14. -/
theorem test_dec_vectors :
    [0x00, 0x10, 0x40, 0x80, 0x50, 0x90, 0xC0, 0xD0, 0x2F, 0xFF, 0x20, 0x08, 0x01, 0x3F].map dec =
      [⟨false, false, false⟩, ⟨true, false, false⟩, ⟨false, true, false⟩, ⟨false, false, true⟩, ⟨true, true, false⟩,
       ⟨true, false, true⟩, ⟨false, true, true⟩, ⟨true, true, true⟩, ⟨false, false, false⟩, ⟨true, true, true⟩,
       ⟨false, false, false⟩, ⟨false, false, false⟩, ⟨false, false, false⟩, ⟨true, false, false⟩] := by decide

/-- The pure `MAP` values of section 2.3 on pairs no frame step leaves. -/
theorem test_mapOut_unreachable_pairs :
    mapOut false ⟨true, true, false⟩ = ⟨true, true, true, false⟩ ∧ mapOut false ⟨true, false, true⟩ = ⟨true, true, false, true⟩ ∧
    mapOut false ⟨true, true, true⟩ = ⟨true, true, true, true⟩ ∧ mapOut true ⟨false, false, false⟩ = ⟨true, true, false, false⟩ ∧
    mapOut true ⟨true, false, false⟩ = ⟨true, true, false, false⟩ := by decide

/-! ## One step of each instruction -/

/-- L4, Scenario C: the latch sets, and the lines already see it. -/
theorem test_upd_sets_latch :
    exec (.upd 2 (bytes [0x00, 0x50])) (stateOf false noButtons) = .next (stateOf true ⟨true, true, false⟩) ∧
    outOf (exec (.upd 2 (bytes [0x00, 0x50])) (stateOf false noButtons)) = some (lvl ⟨true, true, false, false⟩) :=
  ⟨rfl, rfl⟩

/-- L10: release of seek clears the latch even with mode held; P2 step 3: the buttons come from byte 1. -/
theorem test_upd_clears_latch_and_reads_byte_one :
    outOf (exec (.upd 2 (bytes [0x00, 0x10])) (stateOf true ⟨true, true, false⟩)) = some (lvl ⟨true, true, false, false⟩) ∧
    pairOf (exec (.upd 2 (bytes [0x00, 0x10])) (stateOf true ⟨true, true, false⟩)) = some (false, ⟨true, false, false⟩) ∧
    pairOf (exec (.upd 3 (bytes [0xAA, 0x90, 0x55])) (stateOf false noButtons)) = some (true, ⟨true, false, true⟩) :=
  ⟨rfl, rfl, rfl⟩

/-- The example of R55: nothing is decoded from byte 0, nor from the port byte 1 beyond the length. -/
theorem test_nupShort_keeps :
    exec (.nupShort 1 ffPayload) (stateOf false ⟨true, false, false⟩) = .next (stateOf false ⟨true, false, false⟩) := by rfl

/-- The example of R54; and E10: the first frame after reset drives the lines to the mapper's value. -/
theorem test_nupId_keeps :
    exec (.nupId 0x2D4 8 ffPayload) (stateOf true ⟨false, true, false⟩) = .next (stateOf true ⟨false, true, false⟩) ∧
    outOf (exec (.nupId 0x001 0 (bytes [])) State.reset) = some (lvl ⟨false, false, false, false⟩) := ⟨rfl, rfl⟩

/-- S14. -/
theorem test_rsvLen_refused : exec (.rsvLen 0x2D5 9 ffPayload) State.reset = .refused .reservedLength := by rfl

/-- E3 and E4: a sent diagnostic frame leaves the registers, a failed one halts with the lines high. -/
theorem test_txdiag :
    (exec (.txdiag .sent) State.reset = .next { State.reset with endpoint := ⟨false, [0x001_4_0102_0304_0000_0000]⟩ }) ∧
    exec (.txdiag .failed) State.reset = .next (State.reset.setHalt true) := ⟨rfl, rfl⟩

/-- E1 and E8: reset from a halted state. -/
theorem test_reset : exec (.reset true true) (haltedOf true ⟨true, true, false⟩) = .next State.reset := by rfl

/-- E5 and E7. -/
theorem test_fault :
    exec (.fault .rxFail true) (stateOf true ⟨true, true, false⟩) = .next (haltedOf true ⟨true, true, false⟩) ∧
    exec (.fault .rxFail false) (haltedOf true ⟨true, true, false⟩) = .next (haltedOf true ⟨true, true, false⟩) :=
  ⟨rfl, rfl⟩

/-- L7: both seek lines pass through; E6: a halted block ignores the frame. -/
theorem test_frame :
    outOf (exec (.frame (btn false true true)) (stateOf false noButtons)) = some (lvl ⟨false, false, true, true⟩) ∧
    exec (.frame rel) (haltedOf true ⟨true, true, false⟩) = .next (haltedOf true ⟨true, true, false⟩) := ⟨rfl, rfl⟩

/-- E9. -/
theorem test_noEvent : exec .noEvent State.reset = .next State.reset ∧ step State.reset = .next State.reset := ⟨rfl, rfl⟩

/-- L3 as a completed receive; a failed receive halts. -/
theorem test_recv :
    pairOf (exec (.recv (.frame (btn false true false))) (stateOf false noButtons)) = some (false, ⟨false, true, false⟩) ∧
    haltOf (exec (.recv .failed) State.reset) = some true := ⟨rfl, rfl⟩

/-- E2: the registers are unchanged. -/
theorem test_filtAll : exec .filtAll State.reset = .next { State.reset with endpoint := ⟨true, []⟩ } := by rfl

/-- E11 on the ports: fault and frame together. -/
theorem test_fault_wins_over_frame :
    step (withInput (stateOf false noButtons) [.evt 0b011 0x2D5_2_0050_0000_0000_0000 .rxFail]) =
      .next (haltedOf false noButtons) := by rfl

/-! ## Text (R49, R50) -/

theorem test_text_reads :
    readEvent "FRAME 0x2D5 3 [AA 90 55]" = some (.frame ⟨0x2D5, 3, bytes [0xAA, 0x90, 0x55]⟩) ∧
    readEvent "SHORT" = some (.frame ⟨0x2D5, 1, bytes [0xFF]⟩) ∧
    readEvent "NOISE 0x123" = some (.frame ⟨0x123, 0, bytes []⟩) ∧ readEvent "NOISE 0x2D5" = none ∧
    readEvent "FRAME 0x2D5 2 [00]" = none ∧ readEvent "FRAME 0x800 0 []" = none := by decide

theorem test_text_writes :
    eventText (.nupId 0x7FF 0 (bytes [])) = some "FRAME 0x7FF 0 []".toList ∧
    eventText (.fault .rxFail false) = some "FAULT RX".toList ∧ eventText .noEvent = none := by decide

/-- The eight values of `bb` in R50. -/
theorem test_button_bytes :
    [buttonByte false false false, buttonByte true false false, buttonByte false true false, buttonByte true true false,
     buttonByte false false true, buttonByte true false true, buttonByte false true true, buttonByte true true true] =
      [0x00, 0x10, 0x40, 0x50, 0x80, 0x90, 0xC0, 0xD0] := by decide

/-! ## Witnesses: a concrete state and operands that meet the hypotheses of each statement, clause by clause -/

theorem witness_ClassMapAndSelectorTable : (8#4).toNat ≤ 8 ∧ ¬ (9#4).toNat ≤ 8 := by decide

theorem witness_BitFieldDecoderTakesThreeBits :
    (⟨0x2D5, 8, ffPayload⟩ : Frame).len.toNat ≤ 8 ∧ sel ⟨0x2D5, 8, ffPayload⟩ = true ∧ State.reset.halt = false := by decide

theorem witness_LatchPriorityRules :
    (false || false) = false ∧ ((true || false) = true ∧ true = true) ∧ ((false || true) = true ∧ false = false) := by decide

theorem witness_LatchProperties : (true || false) = true ∧ (false || true) = true := by decide

theorem witness_SettledPairsShowFiveOutputs : (true, (⟨true, true, true⟩ : Snapshot)) ∈ reachablePairs := by decide

theorem witness_FrameStep : (⟨0x2D5, 8, ffPayload⟩ : Frame).len.toNat ≤ 8 ∧ (noise 0x7FF).len.toNat ≤ 8 := by decide

theorem witness_UpdLoadsButtons :
    (2 ≤ (2#4).toNat ∧ (2#4).toNat ≤ 8) ∧ (2 ≤ (8#4).toNat ∧ (8#4).toNat ≤ 8) ∧
    (stateOf false noButtons).halt = false ∧ (haltedOf false noButtons).halt = true := by decide

theorem witness_NupIdKeepsSnapshot :
    ((0x2D4 : FrameId) ≠ 0x2D5#11 ∧ (8#4).toNat ≤ 8) ∧ ((0x6D5 : FrameId) ≠ 0x2D5#11 ∧ (0#4).toNat ≤ 8) ∧
    (stateOf true ⟨false, true, false⟩).halt = false ∧ (haltedOf true ⟨false, true, false⟩).halt = true := by decide

theorem witness_NupShortKeepsSnapshot :
    (0#4).toNat ≤ 1 ∧ (1#4).toNat ≤ 1 ∧ (stateOf false noButtons).halt = false ∧ (haltedOf false noButtons).halt = true := by
  decide

theorem witness_ReservedLengthRefused : 9 ≤ (9#4).toNat ∧ 9 ≤ (15#4).toNat := by decide

theorem witness_BothSeekButtonsPassThrough :
    2 ≤ (2#4).toNat ∧ (2#4).toNat ≤ 8 ∧ (stateOf false noButtons).halt = false ∧ (stateOf false noButtons).sticky = false ∧
    dec (bytes [0x00, 0xC0]).b1 = ⟨false, true, true⟩ := by decide

theorem witness_UpdForgetsOldSnapshot :
    (Instr.upd 8 ffPayload).wellFormed = true ∧ (stateOf true ⟨true, true, true⟩).halt = false := by decide

theorem witness_IgnoredBitsHaveNoEffect :
    (sel ⟨0x2D5, 2, bytes [0x00, 0x50]⟩ = true ∧ sel ⟨0x2D5, 8, ⟨0xFF, 0x7F, 0xFF, 0xFF, 0xFF, 0xFF, 0xFF, 0xFF⟩⟩ = true ∧
      (0x50 : Byte) &&& 0xD0 = (0x7F : Byte) &&& 0xD0) ∧
    (sel short = false ∧ sel ⟨0x2D4, 8, ffPayload⟩ = false) ∧ (8#4).toNat ≤ 8 := by decide

theorem witness_RepeatedFrameChangesNothing : ∃ t, exec (.frame (btn true true false)) (stateOf false noButtons) = .next t :=
  ⟨_, rfl⟩

theorem witness_FirstFrameAfterReset :
    ((btn true true false).len.toNat ≤ 8 ∧ sel (btn true true false) = true) ∧ (short.len.toNat ≤ 8 ∧ sel short = false) ∧
    (AtResetLevel State.reset ∧ State.reset.halt = false) ∧
    ∃ t, run [.filtAll, .txdiag .sent] (withInput State.reset [.filtAll]) = .next t ∧ AtResetLevel t ∧ t.halt = false :=
  ⟨by decide, by decide, by decide, _, rfl, by decide, rfl⟩

theorem witness_BusFaultHaltsForGood : (btn false true false).len.toNat ≤ 8 := by decide

theorem witness_SilenceChangesNothing : (stateOf true ⟨true, true, true⟩).input = [] := by decide

theorem witness_FilterProgrammingResult : State.reset.halt = false ∧ (haltedOf false noButtons).halt = true := by decide

theorem witness_DiagnosticTransmitResult : State.reset.halt = false ∧ (haltedOf false noButtons).halt = true := by decide

theorem witness_ReceiveIsOneEvent : (⟨0x2D5, 8, ffPayload⟩ : Frame).len.toNat ≤ 8 := by decide

/-- One word for each side of the condition: the diagnostic frame with other bytes past its length, and a length of 5. -/
theorem witness_DirectionOfTheDiagnosticFrame :
    frameOfWord 0x001_4_0102_0304_FFFF_FFFF = ⟨0x001, 4, ⟨0x01, 0x02, 0x03, 0x04, 0xFF, 0xFF, 0xFF, 0xFF⟩⟩ ∧
    frameOfWord 0x001_5_0102_0304_0000_0000 = ⟨0x001, 5, ⟨0x01, 0x02, 0x03, 0x04, 0x00, 0x00, 0x00, 0x00⟩⟩ := by decide

theorem witness_ForeignFramesRefused :
    (withInput State.reset [.foreign .remoteRequest]).input = .foreign .remoteRequest :: [] := by decide

theorem witness_SnapshotWrites :
    (Instr.frame (btn true false true)).wellFormed = true ∧
    ∃ t, exec (.frame (btn true false true)) (stateOf false noButtons) = .next t := ⟨by decide, _, rfl⟩

theorem witness_LatchWrites : ∃ t, exec (.frame (btn true false true)) (stateOf false noButtons) = .next t := ⟨_, rfl⟩

theorem witness_LineWrites : ∃ t, exec (.nupId 0x123 0 (bytes [])) State.reset = .next t := ⟨_, rfl⟩

theorem witness_HaltBit :
    (∃ t, exec (.recv .failed) (stateOf false noButtons) = .next t ∧ (stateOf false noButtons).halt = false) ∧
    (∃ t, exec (.reset false false) (haltedOf false noButtons) = .next t ∧ (haltedOf false noButtons).halt = true) ∧
    (∃ t, exec (.frame rel) (haltedOf false noButtons) = .next t ∧ (haltedOf false noButtons).halt = true ∧
      isReset (.frame rel) = false) := ⟨⟨_, rfl, rfl⟩, ⟨_, rfl, rfl⟩, ⟨_, rfl, rfl, rfl⟩⟩

theorem witness_OnlyTheDiagnosticFrameIsSent : ∃ t, exec (.txdiag .sent) State.reset = .next t := ⟨_, rfl⟩

theorem witness_MeaningsIgnoreTheInput : ∃ t, exec (.reset false true) (withInput State.reset [.filtAll]) = .next t := ⟨_, rfl⟩

theorem witness_LinesAreNeverReadBack :
    (∃ t, exec (.reset false false) (stateOf false noButtons) = .next t ∧ isReset (.reset false false) = true) ∧
    (∃ t, exec (.frame short) (stateOf false noButtons) = .next t ∧ (stateOf false noButtons).halt = false ∧
      delivers (.frame short) (fun _ => true) = true) := ⟨⟨_, rfl, rfl⟩, ⟨_, rfl, rfl, rfl⟩⟩

theorem witness_WellFormedInstructionsComplete :
    ((Instr.upd 2 ffPayload).wellFormed = true ∧ isReserved (.upd 2 ffPayload) = false) ∧
    ((Instr.rsvLen 0x7FF 9 ffPayload).wellFormed = true ∧ isReserved (.rsvLen 0x7FF 9 ffPayload) = true) := by decide

theorem witness_DecodeOfEncode :
    [Instr.upd 2 ffPayload, .upd 8 ffPayload, .nupShort 0 ffPayload, .nupShort 1 ffPayload, .nupId 0x2D4 8 ffPayload,
     .rsvLen 0x2D5 9 ffPayload, .txdiag .failed, .reset true true, .fault .txFail true, .frame ⟨0x7FF, 8, ffPayload⟩, .noEvent,
     .recv (.frame ⟨0, 8, ffPayload⟩), .filtAll].all Instr.wellFormed = true := by decide

theorem witness_StepRunsTheDecodedInstruction :
    ((withInput State.reset [.rxf 0x2D5_2_0050_0000_0000_0000]).input = .rxf 0x2D5_2_0050_0000_0000_0000 :: [] ∧
      decode (.rxf 0x2D5_2_0050_0000_0000_0000) = .ok (.upd 2 (bytes [0x00, 0x50]))) ∧
    ((withInput State.reset [.foreign .errorFrame]).input = .foreign .errorFrame :: [] ∧
      decode (.foreign .errorFrame) = .error (.notStandardData .errorFrame)) := ⟨⟨rfl, rfl⟩, rfl, rfl⟩

/-- One witness for each of the four clauses: the event words `111`, `011`, `001`, `000`. -/
theorem witness_PortPriority :
    (withInput State.reset [.evt 0b111 0 .rxFail]).input = .evt (eventWord true true true) 0 .rxFail :: [] ∧
    (withInput State.reset [.evt 0b011 0 .rxFail]).input = .evt (eventWord false true true) 0 .rxFail :: [] ∧
    (withInput State.reset [.evt 0b001 0 .rxFail]).input = .evt (eventWord false false true) 0 .rxFail :: [] ∧
    (withInput State.reset [.evt 0b000 0 .rxFail]).input = .evt (eventWord false false false) 0 .rxFail :: [] := by decide

theorem witness_EveryStepKeepsTheInvariant :
    (RunInvariant (withInput (stateOf true ⟨false, true, false⟩) [.rxf 0x2D5_2_0050_0000_0000_0000]) ∧
      ∃ t, step (withInput (stateOf true ⟨false, true, false⟩) [.rxf 0x2D5_2_0050_0000_0000_0000]) = .next t) ∧
    (RunInvariant (withInput State.reset [.rxf 0x123_0_0000_0000_0000_0000]) ∧
      ∃ t, step (withInput State.reset [.rxf 0x123_0_0000_0000_0000_0000]) = .next t) :=
  ⟨⟨⟨rfl, .inl rfl⟩, _, rfl⟩, ⟨rfl, .inr ⟨rfl, rfl, rfl⟩⟩, _, rfl⟩

theorem witness_LinesAfterAFrameStep :
    Settled (stateOf true ⟨false, true, false⟩) ∧ (stateOf true ⟨false, true, false⟩).halt = false ∧
    ∃ t, exec (.frame (btn false false true)) (stateOf true ⟨false, true, false⟩) = .next t := ⟨rfl, rfl, _, rfl⟩

theorem witness_BusLoadCannotDisturb :
    Settled (stateOf true ⟨false, true, false⟩) ∧ OutDriven (stateOf true ⟨false, true, false⟩) ∧
    ∀ i ∈ [Instr.noEvent, .nupId 0x2D4 8 ffPayload, .frame short],
      i = .noEvent ∨ (i.wellFormed = true ∧ delivers i (fun f => !sel f && lenAdmitted f.len) = true) :=
  ⟨rfl, rfl, by decide⟩

theorem witness_SeekIsSwallowedWhileSticky :
    Settled (stateOf true ⟨true, true, false⟩) ∧ (stateOf true ⟨true, true, false⟩).sticky = true ∧
    (stateOf true ⟨true, true, false⟩).halt = false ∧
    ∀ i ∈ [Instr.upd 2 (bytes [0x00, 0x40]), .frame (btn false false true), .nupId 0x123 0 (bytes [])],
      i.wellFormed = true ∧ delivers i (fun f => lenAdmitted f.len && (!sel f || (dec f.data.b1).seekAny)) = true :=
  ⟨rfl, rfl, rfl, by decide⟩

theorem witness_LatchIsSetOnlyByACombination :
    (Instr.frame (btn true true false)).wellFormed = true ∧ Settled (stateOf false noButtons) ∧
    (stateOf false noButtons).sticky = false ∧
    ∃ t, exec (.frame (btn true true false)) (stateOf false noButtons) = .next t ∧ t.sticky = true :=
  ⟨by decide, rfl, rfl, _, rfl, rfl⟩

theorem witness_OnlyResetEndsAHalt :
    (haltedOf true ⟨true, true, false⟩).halt = true ∧
    ∀ i ∈ [Instr.frame rel, .fault .rxFail false, .txdiag .sent],
      i.wellFormed = true ∧ isReset i = false ∧ isReserved i = false := by decide

theorem witness_ProperPowerCycleSendsOnce :
    properPowerCycle [.filtAll, .txdiag .failed] = true ∧
    properPowerCycle [.filtAll, .txdiag .sent, .recv (.frame rel), .noEvent, .fault .rxFail false] = true := by decide

theorem witness_SteppingIsRunning :
    ∀ i ∈ [Instr.filtAll, .txdiag .sent, .frame (btn true true false), .reset false false], i.wellFormed = true := by decide

end Sys2Proof.Tests
end

