-- ==== Sys2Proof/Proofs/Effects.lean ====
section
/-! SUPPORT. What every instruction does, said once: `Meaning` lists the seven shapes a meaning can have, each as an
equation for `exec i` in every state, and `meaning i` finds the shape of each instruction. The inversion of `step` and
the induction over a run stand here too. -/

namespace Sys2Proof.Machine

/-! ## The shapes of a meaning -/

/-- The class of an instruction in the terms of the claims: reset, bus failure, delivered frame. -/
structure Classified (i : Instr) (reset busFault : Bool) (delivered : Option Frame) : Prop where
  reset : isReset i = reset
  busFault : isBusFault i = busFault
  delivered : deliveredFrame i = delivered

/-- The snapshot that a frame step with `f` leaves, from the one before it (R60, R61). -/
def snapAfter (f : Frame) (old : Snapshot) : Snapshot := if sel f then dec f.data.b1 else old

@[simp] theorem snapAfter_of_sel {f : Frame} (h : sel f = true) (old : Snapshot) :
    snapAfter f old = dec f.data.b1 := if_pos h

@[simp] theorem snapAfter_of_not_sel {f : Frame} (h : sel f = false) (old : Snapshot) : snapAfter f old = old := by
  simp [snapAfter, h]

/-- What an endpoint operation makes of the endpoint's record (R82, R83; log 6). -/
def endpointAfter : Instr → Endpoint → Endpoint
  | .filtAll, e => ⟨true, e.sent⟩
  | .txdiag .sent, e => ⟨e.filterAll, e.sent ++ [wordOfFrame diagFrame]⟩
  | _, e => e

/-- Everything that the meaning of `i` can be, as an equation that holds in every state. A frame's snapshot is tied to
the delivered frame for well-formed instructions only: the meaning of a class reads no operand that its row fixes. -/
inductive Meaning (i : Instr) : Prop where
  | reset (hi : Classified i true false none) (he : ∀ s, exec i s = .next (powerOnReset s))
  | busFault (hi : Classified i false true none) (he : ∀ s, exec i s = .next (s.setHalt true))
  | frame (f : Frame) (load : Snapshot → Snapshot) (hi : Classified i false false (some f))
      (hload : i.wellFormed = true → load = snapAfter f)
      (he : ∀ s, exec i s = ifRunning s (.next (pipeline s (load s.snap))))
  | record (hi : Classified i false false none)
      (he : ∀ s, exec i s = ifRunning s (.next (s.setEndpoint (endpointAfter i s.endpoint))))
  | silent (hi : Classified i false false none) (he : ∀ s, exec i s = .next s)
  | reserved (f : Frame) (hi : Classified i false false (some f)) (hlen : i.wellFormed = true → 8 < f.len.toNat)
      (he : ∀ s, exec i s = .refused .reservedLength)
  | unreadable (f : Frame) (hi : Classified i false false (some f)) (hwf : i.wellFormed = false)
      (he : ∀ s, exec i s = ifRunning s (.fault .payloadIndex))

/-- The selector on a frame with the control identifier is the lower bound on its length (R52). -/
theorem sel_ctrlId (len : FrameLen) (data : Payload) :
    sel ⟨Config.ctrlId, len, data⟩ = decide (2 ≤ len.toNat) := by simp [sel]

/-- The selector takes no frame with another identifier (R52). -/
theorem sel_of_id_ne {f : Frame} (h : f.id ≠ Config.ctrlId) : sel f = false := by simp [sel, h]

/-- The frame step refuses a reserved length (R56). -/
theorem frameStep_reserved {f : Frame} (h : 8 < f.len.toNat) (s : State) :
    frameStep f s = .refused .reservedLength := if_pos h

/-- The frame step on an admitted length, in every state (R51). -/
theorem frameStep_admitted {f : Frame} (h : f.len.toNat ≤ 8) (s : State) :
    frameStep f s = ifRunning s (.next (pipeline s (snapAfter f s.snap))) := by
  rcases frameStep_cases f s with ⟨hl, -⟩ | ⟨-, hh, e⟩ | ⟨-, hh, hs, e⟩ | ⟨-, hh, hs, e⟩
  · omega
  · rw [e, ifRunning_halted hh]
  · rw [e, ifRunning_running hh, snapAfter_of_sel hs]
  · rw [e, ifRunning_running hh, snapAfter_of_not_sel hs]

/-- An instruction whose meaning is the frame step: a frame on the ports, or a completed receive (R51, R81). -/
theorem meaning_of_frameStep {i : Instr} {f : Frame} (hi : Classified i false false (some f))
    (he : ∀ s, exec i s = frameStep f s) : Meaning i := by
  rcases Nat.lt_or_ge 8 f.len.toNat with hl | hl
  · exact .reserved f hi (fun _ => hl) fun s => (he s).trans (frameStep_reserved hl s)
  · exact .frame f (snapAfter f) hi (fun _ => rfl) fun s => (he s).trans (frameStep_admitted hl s)

/-- `UPD` loads byte 1 where there is one (R53); without one, only an ill-formed term has this shape (R11). -/
theorem meaning_upd (len : FrameLen) (data : Payload) : Meaning (.upd len data) := by
  rcases Nat.lt_or_ge len.toNat 2 with hl | hl
  · refine .unreadable ⟨Config.ctrlId, len, data⟩ ⟨rfl, rfl, rfl⟩ ?_ fun s => ?_
    · rw [← Bool.not_eq_true, wellFormed_upd_iff]
      omega
    · have hread : memRead ⟨Config.ctrlId, len, data⟩ Config.byteIdx = none := by
        rw [memRead_byteIdx, if_neg (Nat.not_le.mpr hl)]
      simp only [exec, execUpd, updateFrom, hread]
  · refine .frame ⟨Config.ctrlId, len, data⟩ (fun _ => dec data.b1) ⟨rfl, rfl, rfl⟩ (fun _ => ?_) fun s => ?_
    · have hsel : sel ⟨Config.ctrlId, len, data⟩ = true := by simp [sel_ctrlId, hl]
      exact funext fun old => (snapAfter_of_sel hsel old).symm
    · exact congrArg (ifRunning s) (updateFrom_of_len (f := ⟨Config.ctrlId, len, data⟩) hl s)

/-- A class that retains the snapshot, for a frame the selector does not take (R54, R55). -/
theorem meaning_of_retain {i : Instr} {f : Frame} (hi : Classified i false false (some f))
    (hsel : i.wellFormed = true → sel f = false) (he : ∀ s, exec i s = ifRunning s (retain s)) : Meaning i :=
  .frame f id hi (fun hwf => funext fun old => (snapAfter_of_not_sel (hsel hwf) old).symm) he

/-- Every instruction's meaning has one of the seven shapes. -/
theorem meaning : (i : Instr) → Meaning i
  | .upd len data => meaning_upd len data
  | .nupShort len data =>
    meaning_of_retain (f := ⟨Config.ctrlId, len, data⟩) ⟨rfl, rfl, rfl⟩
      (fun hwf => by
        have hlen := (wellFormed_nupShort_iff len data).mp hwf
        simp [sel_ctrlId, hlen])
      fun _ => rfl
  | .nupId id len data =>
    meaning_of_retain (f := ⟨id, len, data⟩) ⟨rfl, rfl, rfl⟩
      (fun hwf => sel_of_id_ne ((wellFormed_nupId_iff id len data).mp hwf).1) fun _ => rfl
  | .rsvLen id len data =>
    .reserved ⟨id, len, data⟩ ⟨rfl, rfl, rfl⟩ (wellFormed_rsvLen_iff id len data).mp fun _ => rfl
  | .txdiag .sent => .record ⟨rfl, rfl, rfl⟩ fun _ => rfl
  | .txdiag .failed => .busFault ⟨rfl, rfl, rfl⟩ fun _ => rfl
  | .reset _ _ => .reset ⟨rfl, rfl, rfl⟩ fun _ => rfl
  | .fault _ _ => .busFault ⟨rfl, rfl, rfl⟩ fun _ => rfl
  | .frame _ => meaning_of_frameStep ⟨rfl, rfl, rfl⟩ fun _ => rfl
  | .noEvent => .silent ⟨rfl, rfl, rfl⟩ fun _ => rfl
  | .recv (.frame _) => meaning_of_frameStep ⟨rfl, rfl, rfl⟩ fun _ => rfl
  | .recv .failed => .busFault ⟨rfl, rfl, rfl⟩ fun _ => rfl
  | .recv .waiting => .silent ⟨rfl, rfl, rfl⟩ fun _ => rfl
  | .filtAll => .record ⟨rfl, rfl, rfl⟩ fun _ => rfl

/-! ## What an instruction, a step and a run can do -/

/-- A guarded operation that answers a next state held everything, or ran. -/
theorem ifRunning_eq_next_iff {s t : State} {k : Result} :
    ifRunning s k = .next t ↔ (s.halt = true ∧ t = s) ∨ (s.halt = false ∧ k = .next t) := by
  cases hh : s.halt <;> simp [ifRunning, hh, eq_comm]

/-- Everything an instruction that answers a next state can do: reset, halt, drive the lines from a new snapshot, note an
endpoint operation, or nothing (also because the block is halted). -/
inductive Effect (i : Instr) (s : State) : State → Prop where
  | reset (hi : Classified i true false none) : Effect i s (powerOnReset s)
  | busFault (hi : Classified i false true none) : Effect i s (s.setHalt true)
  | frame (f : Frame) (b : Snapshot) (hi : Classified i false false (some f)) (hrun : s.halt = false)
      (hb : i.wellFormed = true → b = snapAfter f s.snap) : Effect i s (pipeline s b)
  | record (hi : Classified i false false none) (hrun : s.halt = false) :
      Effect i s (s.setEndpoint (endpointAfter i s.endpoint))
  | silent (hi : Classified i false false none) : Effect i s s
  | halted (delivered : Option Frame) (hi : Classified i false false delivered) (hhalt : s.halt = true) : Effect i s s

/-- A guarded operation holds everything on a halted block, so only what it does on a running one is left to say. -/
theorem effect_of_guarded {i : Instr} {s t : State} {k : Result} {delivered : Option Frame}
    (hi : Classified i false false delivered) (he : exec i s = ifRunning s k) (h : exec i s = .next t)
    (hrun : s.halt = false → k = .next t → Effect i s t) : Effect i s t := by
  rcases ifRunning_eq_next_iff.mp (he.symm.trans h) with ⟨hhalt, rfl⟩ | ⟨hh, hk⟩
  · exact .halted delivered hi hhalt
  · exact hrun hh hk

theorem effect_of_exec {i : Instr} {s t : State} (h : exec i s = .next t) : Effect i s t := by
  cases meaning i with
  | reset hi he => cases (he s).symm.trans h; exact .reset hi
  | busFault hi he => cases (he s).symm.trans h; exact .busFault hi
  | frame f load hi hload he =>
    refine effect_of_guarded hi (he s) h fun hrun hk => ?_
    cases hk
    exact .frame f _ hi hrun fun hwf => congrFun (hload hwf) s.snap
  | record hi he =>
    refine effect_of_guarded hi (he s) h fun hrun hk => ?_
    cases hk
    exact .record hi hrun
  | silent hi he => cases (he s).symm.trans h; exact .silent hi
  | reserved f hi hlen he => cases (he s).symm.trans h
  | unreadable f hi hwf he => exact effect_of_guarded hi (he s) h fun _ hk => nomatch hk

/-- A step on a silent bus changes nothing (R98). -/
theorem step_of_input_nil {s : State} (h : s.input = []) : step s = .next s := by
  simp only [step, fetch_of_input_nil h]

/-- A step that answers a next state found no item, or ran the instruction of the next one (R38). -/
theorem step_next_cases {s t : State} (h : step s = .next t) :
    t = s ∨ ∃ e rest i, s.input = e :: rest ∧ decode e = .ok i ∧ exec i (s.setInput rest) = .next t := by
  cases hin : s.input with
  | nil =>
    rw [step_of_input_nil hin] at h
    cases h
    exact .inl rfl
  | cons e rest =>
    simp only [step, fetch_of_input_cons hin] at h
    cases hdec : decode e with
    | ok i => rw [hdec] at h; exact .inr ⟨e, rest, i, rfl, hdec, h⟩
    | error why => rw [hdec] at h; cases h

/-- A property that every instruction keeps holds after every run from a state that has it. -/
theorem run_keeps {P : State → Prop} (hkeep : ∀ {i s t}, P s → exec i s = .next t → P t) {is : List Instr}
    {s t : State} (hs : P s) (h : run is s = .next t) : P t := by
  induction is generalizing s with
  | nil => cases h; exact hs
  | cons i is ih =>
    obtain ⟨u, hu, hrest⟩ := exec_next_of_run_cons h
    exact ih (hkeep hs hu) hrest

end Sys2Proof.Machine
end

