-- ==== Sys2Proof/Proofs/Registers.lean ====
section
/-! The four registers: the run invariant and the reachable pairs (R25), `HALT` (R17), the write-only lines (R27), the
packed view (R26). -/

namespace Sys2Proof.Machine

/-! ## The run invariant -/

/-- The latch settles at once: a second transition on the same snapshot changes nothing (R25, R70). -/
theorem nextLatch_idem (s : Bool) (b : Snapshot) : nextLatch (nextLatch s b) b = nextLatch s b := by
  unfold nextLatch
  split
  · rfl
  · split <;> rfl

theorem runInvariant_reset : RunInvariant State.reset := ⟨rfl, .inr ⟨rfl, rfl, rfl⟩⟩

/-- A frame step establishes the invariant from any state. -/
theorem runInvariant_pipeline (s : State) (b : Snapshot) : RunInvariant (pipeline s b) :=
  ⟨nextLatch_idem s.sticky b, .inl rfl⟩

/-- The invariant speaks of the registers of the frame step only. -/
theorem runInvariant_of_registers_eq {s t : State} (hs : RunInvariant s) (hsnap : t.snap = s.snap)
    (hsticky : t.sticky = s.sticky) (hout : t.out = s.out) : RunInvariant t := by
  simpa only [RunInvariant, Settled, OutDriven, AtResetLevel, hsnap, hsticky, hout] using hs

theorem exec_keeps_runInvariant {i : Instr} {s t : State} (hs : RunInvariant s) (h : exec i s = .next t) :
    RunInvariant t := by
  cases effect_of_exec h with
  | reset => exact runInvariant_of_registers_eq runInvariant_reset rfl rfl rfl
  | busFault => exact runInvariant_of_registers_eq hs rfl rfl rfl
  | frame f b => exact runInvariant_pipeline s b
  | record => exact runInvariant_of_registers_eq hs rfl rfl rfl
  | silent => exact hs
  | halted => exact hs

/-- Settles O51: taking an item off the input leaves the registers, and every instruction keeps the invariant. -/
theorem everyStepKeepsTheInvariant : Obligations.EveryStepKeepsTheInvariant := by
  intro s t hs h
  rcases step_next_cases h with rfl | ⟨e, rest, i, -, -, hexec⟩
  · exact hs
  · have hfetched : RunInvariant (s.setInput rest) := runInvariant_of_registers_eq hs rfl rfl rfl
    exact exec_keeps_runInvariant hfetched hexec

/-- Settles O50: the base case of the invariant. -/
theorem invariantHoldsAtReset : Obligations.InvariantHoldsAtReset := runInvariant_reset

/-! ## The reachable pairs -/

/-- The table of R25 lists the fixed points of the latch. -/
theorem nextLatch_fixed_iff (s : Bool) (b : Snapshot) : nextLatch s b = s ↔ (s, b) ∈ reachablePairs := by
  obtain ⟨m, u, d⟩ := b
  revert s m u d
  decide

/-- The outputs of R79 are the mapper's image of the table of R25. -/
theorem mem_shownOutputs_iff (o : Outputs) : o ∈ shownOutputs ↔ ∃ p ∈ reachablePairs, mapOut p.1 p.2 = o := by
  refine Iff.trans ?_ (List.mem_map (f := fun p : Bool × Snapshot => mapOut p.1 p.2))
  obtain ⟨led, play, next, prev⟩ := o
  revert led play next prev
  decide

/-- Settles O8: both tables are checked over all 16 pairs and all 16 outputs. -/
theorem settledPairsShowFiveOutputs : Obligations.SettledPairsShowFiveOutputs :=
  ⟨nextLatch_fixed_iff, mem_shownOutputs_iff, by decide⟩

theorem dec_buttonByte (m u d : Bool) : dec (buttonByte m u d) = ⟨m, u, d⟩ := by
  revert m u d
  decide

/-- A `BTN` frame drives a running block with its three buttons (R50, R53). -/
theorem exec_btn {s : State} (hrun : s.halt = false) (m u d : Bool) :
    exec (.frame (btn m u d)) s = .next (pipeline s ⟨m, u, d⟩) := by
  have hsel : sel (btn m u d) = true := rfl
  have hlen : (btn m u d).len.toNat ≤ 8 := by simp [btn]
  calc exec (.frame (btn m u d)) s
      = ifRunning s (.next (pipeline s (snapAfter (btn m u d) s.snap))) := frameStep_admitted hlen s
    _ = .next (pipeline s (dec (buttonByte m u d))) := by
        rw [ifRunning_running hrun, snapAfter_of_sel hsel]; rfl
    _ = .next (pipeline s ⟨m, u, d⟩) := by rw [dec_buttonByte]

/-- Two `BTN` frames that lead from reset to a pair: the first brings the latch to its value, with mode pressed where the
latch is to be set; the second shows the pair's own buttons, and the latch stays if the pair is a fixed point. -/
def eventsTo (p : Bool × Snapshot) : List Instr :=
  [.frame (btn p.1 p.2.u p.2.d), .frame (btn p.2.m p.2.u p.2.d)]

theorem eventsTo_wellFormed (p : Bool × Snapshot) : ∀ i ∈ eventsTo p, i.wellFormed = true := by
  simp only [eventsTo, List.forall_mem_cons]
  exact ⟨rfl, rfl, by simp⟩

theorem nextLatch_twice_of_fixed {s : Bool} {b : Snapshot} (h : nextLatch s b = s) :
    nextLatch (nextLatch false ⟨s, b.u, b.d⟩) b = s := by
  obtain ⟨m, u, d⟩ := b
  revert s m u d
  decide

theorem run_eventsTo (p : Bool × Snapshot) :
    run (eventsTo p) State.reset =
      .next (pipeline (pipeline State.reset ⟨p.1, p.2.u, p.2.d⟩) p.2) := by
  rw [eventsTo, run_cons_of_next (exec_btn reset_halt _ _ _), run_cons_of_next (exec_btn rfl _ _ _), run_nil]

/-- Settles O52: every run keeps the latch at a fixed point, and each fixed point is reached by two `BTN` frames. -/
theorem elevenReachablePairs : Obligations.ElevenReachablePairs := by
  intro p
  constructor
  · rintro ⟨is, t, -, hrun, rfl⟩
    obtain ⟨hsettled, -⟩ := run_keeps exec_keeps_runInvariant runInvariant_reset hrun
    exact (nextLatch_fixed_iff t.sticky t.snap).mp hsettled
  · intro hp
    have hfixed : nextLatch p.1 p.2 = p.1 := (nextLatch_fixed_iff p.1 p.2).mpr hp
    have hlatch : nextLatch (nextLatch false ⟨p.1, p.2.u, p.2.d⟩) p.2 = p.1 := nextLatch_twice_of_fixed hfixed
    exact ⟨eventsTo p, _, eventsTo_wellFormed p, run_eventsTo p, Prod.ext hlatch rfl⟩

/-! ## `HALT` -/

/-- What every instruction does to `HALT` (R17). -/
theorem halt_of_exec {i : Instr} {s t : State} (h : exec i s = .next t) :
    t.halt = (!isReset i && (s.halt || isBusFault i)) := by
  cases effect_of_exec h with
  | reset hi => simp [hi.reset]
  | busFault hi => simp [hi.reset, hi.busFault]
  | frame f b hi => simp [hi.reset, hi.busFault]
  | record hi => simp [hi.reset, hi.busFault]
  | silent hi => simp [hi.reset, hi.busFault]
  | halted delivered hi => simp [hi.reset, hi.busFault]

/-- A halted block changes nothing at all on any event but a reset (R17, R91). -/
theorem exec_halted {i : Instr} {s t : State} (h : exec i s = .next t) (hhalt : s.halt = true)
    (hreset : isReset i = false) : t = s := by
  cases effect_of_exec h with
  | reset hi => exact absurd (hi.reset.symm.trans hreset) (by decide)
  | busFault => exact setHalt_true_of_halted s hhalt
  | frame f b hi hrun => exact absurd (hrun.symm.trans hhalt) (by decide)
  | record hi hrun => exact absurd (hrun.symm.trans hhalt) (by decide)
  | silent => rfl
  | halted => rfl

/-- No instruction is both a reset and a bus failure (R90). -/
theorem isReset_eq_false_of_isBusFault {i : Instr} (h : isBusFault i = true) : isReset i = false := by
  cases i with
  | reset => cases h
  | _ => rfl

/-- Settles O34, from the equation for `HALT` and the frame rule of a halted block. -/
theorem haltBit : Obligations.HaltBit := by
  refine ⟨reset_halt, fun i s t h hrun => ?_, fun i s t h hhalt => ?_, fun i s t h hhalt hreset => ?_⟩
  · rw [halt_of_exec h, hrun, Bool.false_or, Bool.and_eq_true, Bool.not_eq_true']
    exact and_iff_right_of_imp isReset_eq_false_of_isBusFault
  · rw [halt_of_exec h, hhalt, Bool.true_or, Bool.and_true, Bool.not_eq_false']
  · cases exec_halted h hhalt hreset
    exact ⟨rfl, rfl, rfl, rfl⟩

/-! ## The lines are write-only -/

/-- An instruction overwrites all four lines: a reset, or a frame delivered to a running block (R16). -/
abbrev WritesLines (i : Instr) (s : State) : Prop :=
  isReset i = true ∨ (s.halt = false ∧ delivers i (fun _ => true) = true)

theorem not_writesLines_of_no_frame {i : Instr} {s : State} {busFault : Bool}
    (hi : Classified i false busFault none) : ¬ WritesLines i s := by
  simp [hi.reset, delivers, hi.delivered]

theorem not_writesLines_of_halted {i : Instr} {s : State} {busFault : Bool} {delivered : Option Frame}
    (hi : Classified i false busFault delivered) (hhalt : s.halt = true) : ¬ WritesLines i s := by
  simp [hi.reset, hhalt]

/-- With other lines before it, `i` answers the same next state, or it does not write the lines and passes them on. -/
def LinesOnlyPass (i : Instr) (s t : State) (o : Lines) : Prop :=
  exec i (s.setOut o) = .next t ∨ (¬ WritesLines i s ∧ exec i (s.setOut o) = .next (t.setOut o))

/-- A guarded operation on a halted block passes the lines on; what is left to say is what it does on a running one. -/
theorem linesOnlyPass_of_guarded {i : Instr} {s t : State} {k : State → Result} {delivered : Option Frame} {o : Lines}
    (hi : Classified i false false delivered) (he : ∀ s, exec i s = ifRunning s (k s)) (h : exec i s = .next t)
    (hrun : exec i (s.setOut o) = k (s.setOut o) → k s = .next t → LinesOnlyPass i s t o) :
    LinesOnlyPass i s t o := by
  rcases ifRunning_eq_next_iff.mp ((he s).symm.trans h) with ⟨hhalt, rfl⟩ | ⟨hh, hk⟩
  · exact .inr ⟨not_writesLines_of_halted hi hhalt, (he _).trans (ifRunning_halted (s := t.setOut o) hhalt _)⟩
  · exact hrun ((he _).trans (ifRunning_running (s := s.setOut o) hh _)) hk

theorem linesOnlyPass_of_exec {i : Instr} {s t : State} (h : exec i s = .next t) (o : Lines) :
    LinesOnlyPass i s t o := by
  cases meaning i with
  | reset hi he =>
    cases (he s).symm.trans h
    exact .inl (he _)
  | busFault hi he =>
    cases (he s).symm.trans h
    exact .inr ⟨not_writesLines_of_no_frame hi, he _⟩
  | frame f load hi hload he =>
    refine linesOnlyPass_of_guarded hi he h fun hrun hk => ?_
    cases hk
    exact .inl hrun
  | record hi he =>
    refine linesOnlyPass_of_guarded hi he h fun hrun hk => ?_
    cases hk
    exact .inr ⟨not_writesLines_of_no_frame hi, hrun⟩
  | silent hi he =>
    cases (he s).symm.trans h
    exact .inr ⟨not_writesLines_of_no_frame hi, he _⟩
  | reserved f hi hlen he => cases (he s).symm.trans h
  | unreadable f hi hwf he => exact linesOnlyPass_of_guarded hi he h fun _ hk => nomatch hk

/-- Settles O37: the next state is the same, or it differs in the lines that the instruction does not write. -/
theorem linesAreNeverReadBack : Obligations.LinesAreNeverReadBack := by
  intro i s t o h
  rcases linesOnlyPass_of_exec h o with hsame | ⟨hkeeps, hpass⟩
  · exact ⟨t.out, hsame, fun _ => rfl⟩
  · exact ⟨o, hpass, fun hwrites => absurd hwrites hkeeps⟩

/-! ## The packed view -/

theorem getLsbD_append_ofBool_zero {w : Nat} (x : BitVec w) (b : Bool) : (x ++ BitVec.ofBool b).getLsbD 0 = b := by
  rw [BitVec.getLsbD_append, if_pos Nat.one_pos, BitVec.getLsbD_ofBool]
  rfl

theorem getLsbD_append_ofBool_succ {w : Nat} (x : BitVec w) (b : Bool) (k : Nat) :
    (x ++ BitVec.ofBool b).getLsbD (k + 1) = x.getLsbD k := by
  rw [BitVec.getLsbD_append, if_neg (by omega), Nat.add_sub_cancel]

/-- The packed state, from the bit appended last down to the leading one. -/
theorem packState_bits (s : State) :
    (packState s).getLsbD 0 = s.snap.m ∧ (packState s).getLsbD 1 = s.snap.u ∧ (packState s).getLsbD 2 = s.snap.d ∧
    (packState s).getLsbD 3 = s.sticky ∧ (packState s).getLsbD 4 = s.out.prev ∧ (packState s).getLsbD 5 = s.out.next ∧
    (packState s).getLsbD 6 = s.out.play ∧ (packState s).getLsbD 7 = s.out.led ∧ (packState s).getLsbD 8 = s.halt := by
  simp only [packState, getLsbD_append_ofBool_succ, getLsbD_append_ofBool_zero, BitVec.getLsbD_ofBool, decide_true,
    Bool.true_and, and_self]

/-- Settles O45: the bits of the packing, and the reset state evaluated. -/
theorem packedStateLayout : Obligations.PackedStateLayout := ⟨packState_bits, rfl⟩

theorem unpackState_packState (s : State) : unpackState (packState s) s = s := by
  simp only [unpackState, packState_bits s]

/-- Nine bits, each at its place: the packed bits of an unpacked state are those it was unpacked from. -/
theorem packState_unpackState (st : PackedState) (s : State) : packState (unpackState st s) = st := by
  apply BitVec.eq_of_getLsbD_eq
  intro k hk
  interval_cases k <;> simp only [packState_bits (unpackState st s)] <;> rfl

/-- Settles O46: both directions read the state off bit by bit. -/
theorem packedStateRoundTrip : Obligations.PackedStateRoundTrip := ⟨unpackState_packState, packState_unpackState⟩

/-! ## Silence -/

/-- Settles O24: `NONE` is the identity by its meaning, and a silent bus delivers nothing to run. -/
theorem silenceChangesNothing : Obligations.SilenceChangesNothing := fun _ => ⟨rfl, step_of_input_nil⟩

end Sys2Proof.Machine
end

/-! The frame word and the encodings: a frame comes back from its word (R45), a well-formed instruction from its encoding
(R44, R112), and the word of the diagnostic frame in both directions (R34, R41, R48). -/

namespace Sys2Proof

/-! ## The frame word -/

/-- The word is the fields appended in order, so each is read at the sum of the widths behind it (R45). -/
theorem frameOfWord_wordOfFrame (f : Frame) : frameOfWord (wordOfFrame f) = f := by
  simp only [frameOfWord, wordOfFrame, BitVec.extractLsb'_append_eq_of_le, BitVec.extractLsb'_append_eq_right,
    BitVec.extractLsb'_eq_self, Nat.reduceLeDiff, Nat.reduceSub]

/-! ## Decoding an encoded instruction -/

theorem decode_rxf_wordOfFrame (f : Frame) : decode (.rxf (wordOfFrame f)) = .ok (instrOfFrame f) := by
  rw [decode, frameOfWord_wordOfFrame]

/-- The event word of a reset, whatever coincides with it (R112). -/
theorem decodeEvent_reset (busFault fValid : Bool) (fw : FrameWord) (cause : BusFaultCause) :
    decodeEvent (eventWord true busFault fValid) fw cause = .reset busFault fValid := by
  cases busFault <;> cases fValid <;> rfl

/-- The event word of a fault, whether or not a frame coincides with it (R112). -/
theorem decodeEvent_fault (fValid : Bool) (fw : FrameWord) (cause : BusFaultCause) :
    decodeEvent (eventWord false true fValid) fw cause = .fault cause fValid := by
  cases fValid <;> rfl

theorem decodeEvent_frame (fw : FrameWord) (cause : BusFaultCause) :
    decodeEvent (eventWord false false true) fw cause = .frame (frameOfWord fw) := rfl

/-- The decoder inverts the encoder on every instruction the encodings allow (R44, R112). -/
theorem decode_encode {i : Instr} (h : i.wellFormed = true) : decode (encode i) = .ok i := by
  cases i with
  | upd len data =>
    obtain ⟨h2, h8⟩ := (wellFormed_upd_iff len data).mp h
    rw [encode, decode_rxf_wordOfFrame, Config.ctrlId_eq, instrOfFrame_upd h2 h8]
  | nupShort len data =>
    have hlen := (wellFormed_nupShort_iff len data).mp h
    rw [encode, decode_rxf_wordOfFrame, Config.ctrlId_eq, instrOfFrame_nupShort hlen]
  | nupId id len data =>
    obtain ⟨hid, h8⟩ := (wellFormed_nupId_iff id len data).mp h
    rw [encode, decode_rxf_wordOfFrame, instrOfFrame_nupId hid h8]
  | rsvLen id len data =>
    have hlen := (wellFormed_rsvLen_iff id len data).mp h
    rw [encode, decode_rxf_wordOfFrame, instrOfFrame_rsvLen hlen]
  | reset busFault fValid => exact congrArg Except.ok (decodeEvent_reset busFault fValid _ _)
  | fault cause fValid => exact congrArg Except.ok (decodeEvent_fault fValid _ cause)
  | frame f => rw [encode, decode, decodeEvent_frame, frameOfWord_wordOfFrame]
  | txdiag => rfl
  | noEvent => rfl
  | recv => rfl
  | filtAll => rfl

/-! ## The word of the diagnostic frame -/

/-- The mask of the `TXDIAG` row keeps what stands above the 32 unused bits (R83). -/
theorem isDiagWord_iff_shift (w : FrameWord) : isDiagWord w = true ↔ w >>> 32 = 0x00140102_0304 := by
  have hmask : (0x7FFFFFFFFFFF00000000 : FrameWord) = BitVec.allOnes 79 <<< 32 := rfl
  rw [isDiagWord, beq_iff_eq, hmask, ← BitVec.shiftLeft_ushiftRight]
  refine ⟨fun h => ?_, fun h => ?_⟩
  · bv_omega
  · rw [h]; rfl

/-- The fields of a frame word that the `TXDIAG` row fixes (R48, R83). -/
abbrev DiagFields (f : Frame) : Prop :=
  f.id = 0x001 ∧ f.len = 4 ∧ f.data.b0 = 0x01 ∧ f.data.b1 = 0x02 ∧ f.data.b2 = 0x03 ∧ f.data.b3 = 0x04

/-- The `TXDIAG` row is the diagnostic frame's fields: the bits above the unused ones, field by field. -/
theorem isDiagWord_iff (w : FrameWord) : isDiagWord w = true ↔ DiagFields (frameOfWord w) := by
  rw [isDiagWord_iff_shift]
  simp only [DiagFields, frameOfWord, ← BitVec.toNat_inj, BitVec.extractLsb'_toNat, BitVec.toNat_ushiftRight,
    BitVec.ofNat_eq_ofNat, BitVec.toNat_ofNat, Nat.shiftRight_eq_div_pow]
  omega

/-- A received frame with the diagnostic frame's fields is an ordinary `NUP.ID` (R34, R41). -/
theorem instrOfFrame_diag {f : Frame} (h : DiagFields f) : instrOfFrame f = .nupId 0x001 4 f.data := by
  obtain ⟨id, len, data⟩ := f
  obtain ⟨rfl, rfl, -⟩ := h
  exact instrOfFrame_nupId (by decide) (by decide)

/-- Settles O29: the direction decides, by the `TXDIAG` row for a transmit and by the class map for a receive. -/
theorem directionOfTheDiagnosticFrame : Obligations.DirectionOfTheDiagnosticFrame := by
  intro w r f
  have htx : isDiagWord w = true ↔ DiagFields f := isDiagWord_iff w
  split
  case isTrue h => exact ⟨congrArg Except.ok (instrOfFrame_diag h), if_pos (htx.mpr h)⟩
  case isFalse h => exact if_neg (mt htx.mp h)

end Sys2Proof

/-! The input sequence: an instruction neither reads nor writes the items still to come (R36, R47), a step runs the
instruction of the next one (R38), and stepping through encodings is the run of their instructions. -/

namespace Sys2Proof.Machine

/-! ## The items still to come -/

/-- No instruction takes anything off the input or adds to it. -/
theorem input_of_exec {i : Instr} {s t : State} (h : exec i s = .next t) : t.input = s.input := by
  cases effect_of_exec h <;> rfl

/-- An outcome with other items still to come in its next state, if it has one. -/
def resultWithInput (pending : List Encoded) : Result → Result
  | .next t => .next (t.setInput pending)
  | .fault r => .fault r
  | .refused r => .refused r

theorem resultWithInput_ifRunning (pending : List Encoded) (s : State) (k : Result) :
    resultWithInput pending (ifRunning s k) = ifRunning (s.setInput pending) (resultWithInput pending k) := by
  rcases ifRunning_cases s k with ⟨hh, e⟩ | ⟨hh, e⟩
  · rw [e, ifRunning_halted (s := s.setInput pending) hh, resultWithInput]
  · rw [e, ifRunning_running (s := s.setInput pending) hh]

/-- Every meaning carries the items still to come along unread (R47), also where it faults or is refused. -/
theorem exec_setInput (i : Instr) (s : State) (pending : List Encoded) :
    exec i (s.setInput pending) = resultWithInput pending (exec i s) := by
  cases meaning i with
  | reset hi he => rw [he, he]; rfl
  | busFault hi he => rw [he, he]; rfl
  | frame f load hi hload he => rw [he, he, resultWithInput_ifRunning]; rfl
  | record hi he => rw [he, he, resultWithInput_ifRunning]; rfl
  | silent hi he => rw [he, he]; rfl
  | reserved f hi hlen he => rw [he, he]; rfl
  | unreadable f hi hwf he => rw [he, he, resultWithInput_ifRunning]; rfl

theorem exec_setInput_of_next {i : Instr} {s t : State} (h : exec i s = .next t) (pending : List Encoded) :
    exec i (s.setInput pending) = .next (t.setInput pending) := by
  rw [exec_setInput, h, resultWithInput]

/-- Settles O36: both halves hold of every shape a meaning can have. -/
theorem meaningsIgnoreTheInput : Obligations.MeaningsIgnoreTheInput :=
  fun _ _ _ pending h => ⟨input_of_exec h, exec_setInput_of_next h pending⟩

/-! ## One step -/

theorem step_of_decode_ok {s : State} {e : Encoded} {rest : List Encoded} {i : Instr} (hin : s.input = e :: rest)
    (hdec : decode e = .ok i) : step s = exec i (s.setInput rest) := by
  simp only [step, fetch_of_input_cons hin, hdec]

theorem step_of_decode_error {s : State} {e : Encoded} {rest : List Encoded} {why : DecodeError}
    (hin : s.input = e :: rest) (hdec : decode e = .error why) : step s = .refused (.undecodable why) := by
  simp only [step, fetch_of_input_cons hin, hdec]

/-- Settles O48: the two answers of the decoder. -/
theorem stepRunsTheDecodedInstruction : Obligations.StepRunsTheDecodedInstruction :=
  fun _ _ _ hin => ⟨fun _ => step_of_decode_ok hin, fun _ => step_of_decode_error hin⟩

/-- A step on an encoded instruction runs that instruction. -/
theorem step_encode {i : Instr} (h : i.wellFormed = true) (s : State) (rest : List Encoded) :
    step (s.setInput (encode i :: rest)) = exec i (s.setInput rest) :=
  step_of_decode_ok (s := s.setInput (encode i :: rest)) rfl (decode_encode h)

/-! ## Many steps -/

/-- A step that faults ends the steps. -/
theorem coreRun_of_fault {k : Nat} {s : State} {r : Fault} (h : step s = .fault r) :
    Host.Core.run Sys2Proof.core (k + 1) s = .fault r := by
  have hcore : Sys2Proof.core.step s = .fault r := h
  simp only [Host.Core.run, hcore]

/-- An event that faults ends the run. -/
theorem run_cons_of_fault {i : Instr} {s : State} {r : Fault} (h : exec i s = .fault r) (is : List Instr) :
    run (i :: is) s = .fault r := by simp only [run, h]

/-- A refused event ends the run. -/
theorem run_cons_of_refused {i : Instr} {s : State} {r : Refusal} (h : exec i s = .refused r) (is : List Instr) :
    run (i :: is) s = .refused r := by simp only [run, h]

/-- Settles O59, by induction on the instructions: the first step is the first instruction on the remaining input, and
where that goes on, it goes on from the same state whatever the input still holds. -/
theorem steppingIsRunning : Obligations.SteppingIsRunning := by
  intro is
  induction is with
  | nil => exact fun _ _ _ => rfl
  | cons i is ih =>
    intro s rest hwf
    obtain ⟨hi, his⟩ := List.forall_mem_cons.mp hwf
    have hstep := step_encode hi s (is.map encode ++ rest)
    have hexec := exec_setInput i s
    cases h : exec i s <;> simp only [h, resultWithInput] at hexec
    case next t =>
      have hsteps := coreRun_of_next (k := is.length) (hstep.trans (hexec _))
      exact (hsteps.trans (ih t rest his)).trans (run_cons_of_next (hexec rest) is).symm
    case fault r =>
      exact (coreRun_of_fault (hstep.trans (hexec _))).trans (run_cons_of_fault (hexec rest) is).symm
    case refused r =>
      exact (coreRun_of_refused (hstep.trans (hexec _))).trans (run_cons_of_refused (hexec rest) is).symm

end Sys2Proof.Machine

/-! The class map and the table's rows over every frame word: how each frame is received (R44), the word rebuilt from
its fields (R45), the 29 rows as conditions on the fields, and the event words one by one (R112). -/

namespace Sys2Proof

/-! ## The class of a received frame -/

/-- The four ranges of the class map (R44). -/
theorem class_ranges (id : FrameId) (len : FrameLen) :
    (id = 0x2D5 ∧ 2 ≤ len.toNat ∧ len.toNat ≤ 8) ∨ (id = 0x2D5 ∧ len.toNat < 2) ∨ (id ≠ 0x2D5 ∧ len.toNat ≤ 8) ∨
    8 < len.toNat := by
  by_cases hid : id = 0x2D5
  · rcases Nat.lt_or_ge 8 len.toNat with hl | hl
    · exact .inr (.inr (.inr hl))
    · rcases Nat.lt_or_ge len.toNat 2 with h2 | h2
      · exact .inr (.inl ⟨hid, h2⟩)
      · exact .inl ⟨hid, h2, hl⟩
  · rcases Nat.lt_or_ge 8 len.toNat with hl | hl
    · exact .inr (.inr (.inr hl))
    · exact .inr (.inr (.inl ⟨hid, hl⟩))

/-- Which instruction a frame is received as, with the range of operands that makes it so (R44). -/
inductive ReceivedAs : Frame → Instr → Prop where
  | upd {len : FrameLen} (data : Payload) (h2 : 2 ≤ len.toNat) (h8 : len.toNat ≤ 8) :
      ReceivedAs ⟨Config.ctrlId, len, data⟩ (.upd len data)
  | nupShort {len : FrameLen} (data : Payload) (h : len.toNat < 2) :
      ReceivedAs ⟨Config.ctrlId, len, data⟩ (.nupShort len data)
  | nupId {id : FrameId} {len : FrameLen} (data : Payload) (hid : id ≠ Config.ctrlId) (h8 : len.toNat ≤ 8) :
      ReceivedAs ⟨id, len, data⟩ (.nupId id len data)
  | rsvLen (id : FrameId) {len : FrameLen} (data : Payload) (h : 8 < len.toNat) :
      ReceivedAs ⟨id, len, data⟩ (.rsvLen id len data)

theorem receivedAs_instrOfFrame (f : Frame) : ReceivedAs f (instrOfFrame f) := by
  obtain ⟨id, len, data⟩ := f
  rcases class_ranges id len with ⟨rfl, h2, h8⟩ | ⟨rfl, h⟩ | ⟨hid, h8⟩ | h
  · rw [instrOfFrame_upd h2 h8]; exact .upd data h2 h8
  · rw [instrOfFrame_nupShort h]; exact .nupShort data h
  · rw [instrOfFrame_nupId hid h8]; exact .nupId data hid h8
  · rw [instrOfFrame_rsvLen h]; exact .rsvLen id data h

/-- A received instruction is well formed: its operands are in the range of its class. -/
theorem wellFormed_of_receivedAs {f : Frame} {i : Instr} (h : ReceivedAs f i) : i.wellFormed = true := by
  cases h with
  | upd data h2 h8 => exact (wellFormed_upd_iff _ data).mpr ⟨h2, h8⟩
  | nupShort data h => exact (wellFormed_nupShort_iff _ data).mpr h
  | nupId data hid h8 => exact (wellFormed_nupId_iff _ _ data).mpr ⟨hid, h8⟩
  | rsvLen id data h => exact (wellFormed_rsvLen_iff id _ data).mpr h

/-- The encoder puts back the identifier that a class fixes, so a received instruction encodes to its frame's word. -/
theorem encode_of_receivedAs {f : Frame} {i : Instr} (h : ReceivedAs f i) : encode i = .rxf (wordOfFrame f) := by
  cases h <;> rfl

/-! ## The round trips -/

/-- Settles O40. -/
theorem decodeOfEncode : Obligations.DecodeOfEncode := fun _ => decode_encode

/-- The fields of a word are adjacent and together the whole of it (R45). -/
theorem wordOfFrame_frameOfWord (w : FrameWord) : wordOfFrame (frameOfWord w) = w := by
  simp only [wordOfFrame, frameOfWord, BitVec.extractLsb'_append_extractLsb'_eq_extractLsb']
  exact BitVec.extractLsb'_eq_self

/-- Settles O39. -/
theorem frameWordRoundTrip : Obligations.FrameWordRoundTrip := ⟨frameOfWord_wordOfFrame, wordOfFrame_frameOfWord⟩

/-- Settles O41: the instruction is the one the word's frame is received as. -/
theorem encodeOfDecodedFrame : Obligations.EncodeOfDecodedFrame := by
  intro w
  have hrecv := receivedAs_instrOfFrame (frameOfWord w)
  have henc := encode_of_receivedAs hrecv
  rw [wordOfFrame_frameOfWord] at henc
  exact ⟨_, rfl, wellFormed_of_receivedAs hrecv, henc⟩

/-! ## The rows of the table -/

/-- A row given by its fields (R45): it looks at the identifier and the length, each under a mask, and at no payload
bit. -/
def fieldRow (cls : FrameClass) (id idMask : FrameId) (len lenMask : FrameLen) : RxfRow :=
  ⟨cls, (id &&& idMask) ++ (len &&& lenMask) ++ 0#64, idMask ++ lenMask ++ 0#64⟩

/-- A word whose fields agree with a row's under the row's masks matches the row. -/
theorem rowHits_fieldRow {w : FrameWord} (cls : FrameClass) {id idMask : FrameId} {len lenMask : FrameLen}
    (hid : (frameOfWord w).id &&& idMask = id &&& idMask) (hlen : (frameOfWord w).len &&& lenMask = len &&& lenMask) :
    rowHits w (fieldRow cls id idMask len lenMask) = true := by
  have hw : w = (frameOfWord w).id ++ (frameOfWord w).len ++ w.extractLsb' 0 64 := by
    simp only [frameOfWord, BitVec.extractLsb'_append_extractLsb'_eq_extractLsb']
    exact BitVec.extractLsb'_eq_self.symm
  rw [rowHits, beq_iff_eq, fieldRow, ← hid, ← hlen]
  calc w &&& (idMask ++ lenMask ++ 0#64)
    _ = ((frameOfWord w).id ++ (frameOfWord w).len ++ w.extractLsb' 0 64) &&& (idMask ++ lenMask ++ 0#64) :=
        congrArg (· &&& _) hw
    _ = _ := by rw [BitVec.and_append, BitVec.and_append, BitVec.and_zero]

/-! ### Coverage -/

/-- Some row of class `cls` matches the word. -/
abbrev CoveredAs (w : FrameWord) (cls : FrameClass) : Prop := ∃ r ∈ rxfRows, rowHits w r = true ∧ r.cls = cls

/-- A word is covered by each row of the table that its identifier and length fit. -/
theorem coveredAs_of_fields {w : FrameWord} {cls : FrameClass} {id idMask : FrameId} {len lenMask : FrameLen}
    (hmem : fieldRow cls id idMask len lenMask ∈ rxfRows) (hid : (frameOfWord w).id &&& idMask = id &&& idMask)
    (hlen : (frameOfWord w).len &&& lenMask = len &&& lenMask) : CoveredAs w cls :=
  ⟨_, hmem, rowHits_fieldRow cls hid hlen, rfl⟩

/-- The rows `UPD` len2-3, len4-7, len8. -/
theorem coveredAs_upd {w : FrameWord} (hid : (frameOfWord w).id = 0x2D5) (h2 : 2 ≤ (frameOfWord w).len.toNat)
    (h8 : (frameOfWord w).len.toNat ≤ 8) : CoveredAs w .upd := by
  have hid' := congrArg (· &&& BitVec.allOnes 11) hid
  have hlens : ∀ len : FrameLen, 2 ≤ len.toNat → len.toNat ≤ 8 →
      len &&& 14 = 2 &&& 14 ∨ len &&& 12 = 4 &&& 12 ∨ len &&& 15 = 8 &&& 15 := by decide
  rcases hlens _ h2 h8 with hlen | hlen | hlen <;> exact coveredAs_of_fields (by decide) hid' hlen

/-- The row `NUP.SHORT` len0-1. -/
theorem coveredAs_nupShort {w : FrameWord} (hid : (frameOfWord w).id = 0x2D5) (h : (frameOfWord w).len.toNat < 2) :
    CoveredAs w .nupShort := by
  have hid' := congrArg (· &&& BitVec.allOnes 11) hid
  have hlens : ∀ len : FrameLen, len.toNat < 2 → len &&& 14 = 0 &&& 14 := by decide
  exact coveredAs_of_fields (by decide) hid' (hlens _ h)

/-- The rows `RSV.LEN` len9, len10-11, len12-15 look at no identifier bit. -/
theorem coveredAs_rsvLen {w : FrameWord} (h : 8 < (frameOfWord w).len.toNat) : CoveredAs w .rsvLen := by
  have hid : (frameOfWord w).id &&& 0 = 0 &&& 0 := BitVec.and_zero
  have hlens : ∀ len : FrameLen, 8 < len.toNat →
      len &&& 15 = 9 &&& 15 ∨ len &&& 14 = 10 &&& 14 ∨ len &&& 12 = 12 &&& 12 := by decide
  rcases hlens _ h with hlen | hlen | hlen <;> exact coveredAs_of_fields (by decide) hid hlen

theorem lt_of_getLsbD_ne {n i : Nat} {x y : BitVec n} (h : x.getLsbD i ≠ y.getLsbD i) : i < n := by
  by_contra hge
  exact h (by rw [BitVec.getLsbD_of_ge x i (by omega), BitVec.getLsbD_of_ge y i (by omega)])

/-- Two different words differ at a first bit from the left. -/
theorem exists_first_difference {n : Nat} {x y : BitVec n} (h : x ≠ y) :
    ∃ k, x.getLsbD k ≠ y.getLsbD k ∧ ∀ j, k < j → x.getLsbD j = y.getLsbD j := by
  have hnonempty : {i | x.getLsbD i ≠ y.getLsbD i}.Nonempty := by
    by_contra hempty
    refine h (BitVec.eq_of_getLsbD_eq fun i _ => ?_)
    by_contra hi
    exact hempty ⟨i, hi⟩
  have hbdd : BddAbove {i | x.getLsbD i ≠ y.getLsbD i} := ⟨n, fun _ hi => (lt_of_getLsbD_ne hi).le⟩
  obtain ⟨k, hk, hmax⟩ := hbdd.exists_isGreatest_of_nonempty hnonempty
  refine ⟨k, hk, fun j hj => ?_⟩
  by_contra hne
  exact Nat.not_le.mpr hj (hmax hne)

/-- From the first difference up, the one word is the other with that bit flipped. -/
theorem and_mask_of_first_difference {n k : Nat} {x y : BitVec n} (hk : x.getLsbD k ≠ y.getLsbD k)
    (habove : ∀ j, k < j → x.getLsbD j = y.getLsbD j) :
    x &&& (BitVec.allOnes n <<< k) = (y ^^^ BitVec.twoPow n k) &&& (BitVec.allOnes n <<< k) := by
  apply BitVec.eq_of_getLsbD_eq
  intro j hj
  simp only [BitVec.getLsbD_and, BitVec.getLsbD_xor, BitVec.getLsbD_shiftLeft, BitVec.getLsbD_twoPow]
  rcases Nat.lt_trichotomy j k with hlt | rfl | hgt
  · simp only [hlt, decide_true, Bool.not_true, Bool.and_false, Bool.false_and]
  · simp only [hj, Bool.eq_not.mpr hk, decide_true, Bool.and_true, Bool.xor_true]
  · simp only [habove j hgt, hgt.ne, decide_false, Bool.and_false, Bool.xor_false]

/-- The rows `NUP.ID` idbit`k`: the identifier bits above `k` are those of `CTRL_ID`, bit `k` is not. -/
abbrev otherIdRow (k : Nat) (len lenMask : FrameLen) : RxfRow :=
  fieldRow .nupId (0x2D5 ^^^ BitVec.twoPow 11 k) (BitVec.allOnes 11 <<< k) len lenMask

theorem otherIdRow_mem : ∀ k < 11, otherIdRow k 0 8 ∈ rxfRows ∧ otherIdRow k 8 15 ∈ rxfRows := by decide

/-- The rows `NUP.ID`: the first identifier bit that differs from `CTRL_ID` picks the row, once for the lengths 0 to 7
and once for 8. -/
theorem coveredAs_nupId {w : FrameWord} (hid : (frameOfWord w).id ≠ 0x2D5) (h8 : (frameOfWord w).len.toNat ≤ 8) :
    CoveredAs w .nupId := by
  obtain ⟨k, hk, habove⟩ := exists_first_difference hid
  have hid' := and_mask_of_first_difference hk habove
  obtain ⟨hmem7, hmem8⟩ := otherIdRow_mem k (lt_of_getLsbD_ne hk)
  have hlens : ∀ len : FrameLen, len.toNat ≤ 8 → len &&& 8 = 0 &&& 8 ∨ len &&& 15 = 8 &&& 15 := by decide
  rcases hlens _ h8 with hlen | hlen
  · exact coveredAs_of_fields hmem7 hid' hlen
  · exact coveredAs_of_fields hmem8 hid' hlen

/-- Every frame word matches a row of its own class. -/
theorem coveredAs_classOf (w : FrameWord) : CoveredAs w (classOf (frameOfWord w).id (frameOfWord w).len) := by
  rcases class_ranges (frameOfWord w).id (frameOfWord w).len with ⟨hid, h2, h8⟩ | ⟨hid, h⟩ | ⟨hid, h8⟩ | h
  · rw [hid, classOf_upd h2 h8]; exact coveredAs_upd hid h2 h8
  · rw [hid, classOf_nupShort h]; exact coveredAs_nupShort hid h
  · rw [classOf_nupId hid h8]; exact coveredAs_nupId hid h8
  · rw [classOf_rsvLen h]; exact coveredAs_rsvLen h

/-! ### Disjointness -/

/-- Two rows that ask for different values of a bit that both look at. -/
abbrev RowsConflict (q r : RxfRow) : Prop := q.pattern &&& r.mask ≠ r.pattern &&& q.mask

/-- No word matches two conflicting rows: both sides are the word under both masks. -/
theorem not_rowsConflict_of_hits {w : FrameWord} {q r : RxfRow} (hq : rowHits w q = true) (hr : rowHits w r = true) :
    ¬ RowsConflict q r := by
  have hq' : w &&& q.mask = q.pattern := beq_iff_eq.mp hq
  have hr' : w &&& r.mask = r.pattern := beq_iff_eq.mp hr
  refine not_not_intro ?_
  rw [← hq', ← hr', BitVec.and_assoc, BitVec.and_assoc, BitVec.and_comm q.mask]

theorem rxfRows_pairwise_conflict : rxfRows.Pairwise RowsConflict := by decide

/-- A frame word matches at most one row. -/
theorem rowHits_unique {w : FrameWord} {q r : RxfRow} (hqmem : q ∈ rxfRows) (hrmem : r ∈ rxfRows)
    (hq : rowHits w q = true) (hr : rowHits w r = true) : q = r := by
  by_contra hne
  have hsymm : Std.Symm RowsConflict := ⟨fun _ _ h => h.symm⟩
  exact not_rowsConflict_of_hits hq hr (rxfRows_pairwise_conflict.forall hqmem hrmem hne)

/-- Settles O42: each word has a row of its class, and the rows conflict pairwise. -/
theorem rowsPartitionTheFrameWords : Obligations.RowsPartitionTheFrameWords := by
  refine ⟨rfl, fun w => ?_⟩
  obtain ⟨r, hmem, hhit, hcls⟩ := coveredAs_classOf w
  exact ⟨r, hmem, hhit, hcls, fun q hqmem hq => rowHits_unique hqmem hmem hq hhit⟩

/-! ## Words written out -/

/-- Settles O28. -/
theorem diagnosticFrameWord : Obligations.DiagnosticFrameWord := ⟨rfl, rfl, rfl, rfl, rfl, rfl, rfl⟩

/-- Settles O43: every event word is the packing of three port values (R112). -/
theorem eventWordTable : Obligations.EventWordTable := fun fw c =>
  have hreset := fun busFault fValid => congrArg Except.ok (decodeEvent_reset busFault fValid fw c)
  have hfault := fun fValid => congrArg Except.ok (decodeEvent_fault fValid fw c)
  ⟨hreset false false, hreset false true, hreset true false, hreset true true, hfault false, hfault true,
    congrArg Except.ok (decodeEvent_frame fw c), rfl⟩

/-- Settles O44: closed words, evaluated. -/
theorem knownWordsDecode : Obligations.KnownWordsDecode := by
  unfold Obligations.KnownWordsDecode
  decide

end Sys2Proof

/-! The class map in the machine: the selector takes one class (R58), the frame step runs the frame's class (R51), and
an item that is no data frame is refused (R46); the text form's sample lines (R49, R50). -/

namespace Sys2Proof.Machine

theorem sel_of_two_le {len : FrameLen} (h : 2 ≤ len.toNat) (data : Payload) :
    sel ⟨Config.ctrlId, len, data⟩ = true := by rw [sel_ctrlId, decide_eq_true h]

theorem sel_of_lt_two {len : FrameLen} (h : len.toNat < 2) (data : Payload) :
    sel ⟨Config.ctrlId, len, data⟩ = false := by rw [sel_ctrlId, decide_eq_false (Nat.not_le.mpr h)]

/-- Settles O2: the four ranges, each with its class and the selector's answer. -/
theorem classMapAndSelectorTable : Obligations.ClassMapAndSelectorTable := by
  intro id len data
  have hctrl : (0x2D5 : FrameId) = 0x2D5#11 := rfl
  rcases class_ranges id len with ⟨rfl, h2, h8⟩ | ⟨rfl, h⟩ | ⟨hid, h8⟩ | h
  · have hsel : sel ⟨0x2D5, len, data⟩ = true := sel_of_two_le h2 data
    rw [classOf_upd h2 h8, if_pos h8, if_pos hctrl, if_neg (Nat.not_le.mpr h2)]
    exact ⟨rfl, fun _ => iff_of_true hsel rfl⟩
  · have hsel : sel ⟨0x2D5, len, data⟩ = false := sel_of_lt_two h data
    have h8 : len.toNat ≤ 8 := by omega
    rw [classOf_nupShort h, if_pos h8, if_pos hctrl, if_pos (Nat.le_of_lt_succ h)]
    exact ⟨rfl, fun _ => iff_of_false (ne_true_of_eq_false hsel) (by decide)⟩
  · have hsel : sel ⟨id, len, data⟩ = false := sel_of_id_ne hid
    rw [classOf_nupId hid h8, if_pos h8, if_neg (hctrl ▸ hid)]
    exact ⟨rfl, fun _ => iff_of_false (ne_true_of_eq_false hsel) (by decide)⟩
  · have h8 : ¬ len.toNat ≤ 8 := Nat.not_le.mpr h
    rw [classOf_rsvLen h, if_neg h8]
    exact ⟨rfl, fun hle => absurd hle h8⟩

/-- Settles O15: in each class the frame step updates, retains or refuses as the class does. -/
theorem frameEventRunsItsClass : Obligations.FrameEventRunsItsClass := by
  intro f s
  have hframe : exec (.frame f) s = frameStep f s := rfl
  have hrecv := receivedAs_instrOfFrame f
  generalize instrOfFrame f = i at hrecv ⊢
  rw [hframe]
  cases hrecv with
  | @upd len data h2 h8 =>
    rw [frameStep_admitted h8, snapAfter_of_sel (sel_of_two_le h2 data)]
    exact congrArg (ifRunning s) (updateFrom_of_len (f := ⟨Config.ctrlId, len, data⟩) h2 s).symm
  | @nupShort len data h =>
    have h8 : len.toNat ≤ 8 := by omega
    rw [frameStep_admitted h8, snapAfter_of_not_sel (sel_of_lt_two h data)]
    rfl
  | nupId data hid h8 =>
    rw [frameStep_admitted h8, snapAfter_of_not_sel (sel_of_id_ne hid)]
    rfl
  | rsvLen id data h => exact frameStep_reserved h s

/-- Settles O30: the decoder rejects every foreign kind by name. -/
theorem foreignFramesRefused : Obligations.ForeignFramesRefused := fun _ _ _ hin => step_of_decode_error hin rfl

/-- Settles O47: closed lines, evaluated. -/
theorem eventLinesReadAsTheirEvents : Obligations.EventLinesReadAsTheirEvents := by
  unfold Obligations.EventLinesReadAsTheirEvents
  decide

end Sys2Proof.Machine

/-! The frame selector and the frame step (R51 to R56): the selector's condition, what each class does in every state,
that a repeated frame changes nothing (R53, R70), and which instructions complete. -/

namespace Sys2Proof.Machine

/-! ## The selector -/

theorem sel_iff (f : Frame) : sel f = true ↔ f.id = 0x2D5 ∧ 2 ≤ f.len.toNat := by
  rw [sel, Bool.and_eq_true, beq_iff_eq, decide_eq_true_iff, Config.ctrlId_eq]

/-- Settles O1: the binary spelling of the identifier is `CTRL_ID`. -/
theorem selectorMatchesControlFrames : Obligations.SelectorMatchesControlFrames := sel_iff

/-! ## What each class does -/

/-- The frame step's snapshot, with the selector's condition on the frame written out (R51, R52). -/
theorem snapAfter_eq (f : Frame) (old : Snapshot) :
    snapAfter f old = if f.id = 0x2D5 ∧ 2 ≤ f.len.toNat then dec f.data.b1 else old :=
  if_congr (sel_iff f) rfl rfl

/-- `FRAME` with an admitted length, in every state (R51). -/
theorem exec_frame_admitted {f : Frame} (h : f.len.toNat ≤ 8) (s : State) :
    exec (.frame f) s = ifRunning s (.next (pipeline s (snapAfter f s.snap))) := frameStep_admitted h s

/-- Settles O10: the guard, the snapshot and the three register writes are those of the statement. (`frameStep` itself
is the model's operation.) -/
theorem frameStep_holds : Obligations.FrameStep := by
  intro f s hlen
  rw [exec_frame_admitted hlen, snapAfter_eq]
  rfl

/-- `UPD` with a byte 1, in every state (R53). -/
theorem exec_upd {len : FrameLen} (h : 2 ≤ len.toNat) (data : Payload) (s : State) :
    exec (.upd len data) s = ifRunning s (.next (pipeline s (dec data.b1))) :=
  congrArg (ifRunning s) (updateFrom_of_len (f := ⟨Config.ctrlId, len, data⟩) h s)

/-- The latch's three rules as one expression (R69). -/
theorem nextLatch_closed_form (s : Bool) (b : Snapshot) : nextLatch s b = ((b.u || b.d) && (b.m || s)) := by
  obtain ⟨m, u, d⟩ := b
  revert s m u d
  decide

/-- Settles O11: a length of 2 to 8 gives the class and the byte that the new snapshot is decoded from. -/
theorem updLoadsButtons : Obligations.UpdLoadsButtons := by
  intro len data s h2 h8
  refine ⟨?_, fun hrun => ?_, fun hhalt => ?_⟩
  · rw [decode_rxf_wordOfFrame, instrOfFrame_upd h2 h8]
  · rw [exec_upd h2, ifRunning_running hrun, pipeline, nextLatch_closed_form]
    rfl
  · rw [exec_upd h2, ifRunning_halted hhalt]

/-- What the two classes do that retain the snapshot: the latch and the mapper run on it, on a running block (R54, R55). -/
theorem keepsSnapshot_of_retain {i : Instr} {s : State} (he : exec i s = ifRunning s (retain s)) :
    (s.halt = false →
      exec i s = .next { s with
        sticky := nextLatch s.sticky s.snap
        out := lvl (mapOut (nextLatch s.sticky s.snap) s.snap) }) ∧
    (s.halt = true → exec i s = .next s) :=
  ⟨fun hrun => he.trans (ifRunning_running hrun _), fun hhalt => he.trans (ifRunning_halted hhalt _)⟩

/-- Settles O12. -/
theorem nupIdKeepsSnapshot : Obligations.NupIdKeepsSnapshot := by
  intro id len data s hid h8
  refine ⟨?_, keepsSnapshot_of_retain rfl⟩
  rw [decode_rxf_wordOfFrame, instrOfFrame_nupId hid h8]

/-- Settles O13. -/
theorem nupShortKeepsSnapshot : Obligations.NupShortKeepsSnapshot := by
  intro len data s h
  refine ⟨?_, keepsSnapshot_of_retain rfl⟩
  rw [decode_rxf_wordOfFrame, instrOfFrame_nupShort (Nat.lt_succ_of_le h)]

/-- Settles O14: the word is of the reserved class, and the other two spellings are the frame step, which refuses it. -/
theorem reservedLengthRefused : Obligations.ReservedLengthRefused := by
  intro id len data s h
  have hstep : frameStep ⟨id, len, data⟩ s = .refused .reservedLength :=
    frameStep_reserved (f := ⟨id, len, data⟩) h s
  refine ⟨?_, rfl, hstep, hstep⟩
  rw [decode_rxf_wordOfFrame, instrOfFrame_rsvLen h]

/-! ## A repeated frame -/

/-- A frame loads the same snapshot again, or none (R60, R61). -/
theorem snapAfter_idem (f : Frame) (old : Snapshot) : snapAfter f (snapAfter f old) = snapAfter f old := by
  cases hsel : sel f
  · rw [snapAfter_of_not_sel hsel, snapAfter_of_not_sel hsel]
  · rw [snapAfter_of_sel hsel, snapAfter_of_sel hsel]

/-- Running latch and mapper again on the same snapshot changes nothing (R70). -/
theorem pipeline_idem (s : State) (b : Snapshot) : pipeline (pipeline s b) b = pipeline s b := by
  have hlatch := nextLatch_idem s.sticky b
  simp only [pipeline, State.setSnap, State.setSticky, State.setOut, hlatch]

/-- Settles O19: a frame that was taken has an admitted length; a halted block holds, and on a running one the second
step finds its own snapshot and a settled latch. -/
theorem repeatedFrameChangesNothing : Obligations.RepeatedFrameChangesNothing := by
  intro f s t h
  rcases Nat.lt_or_ge 8 f.len.toNat with hlen | hlen
  · cases h.symm.trans (frameStep_reserved hlen s)
  rcases ifRunning_eq_next_iff.mp ((exec_frame_admitted hlen s).symm.trans h) with ⟨-, rfl⟩ | ⟨hrun, hnext⟩
  · exact h
  · cases hnext
    have hrun' : (pipeline s (snapAfter f s.snap)).halt = false := hrun
    rw [exec_frame_admitted hlen, pipeline_snap, snapAfter_idem, pipeline_idem, ifRunning_running hrun']

/-! ## Completion -/

/-- A well-formed instruction outside the reserved class delivers no frame of a reserved length (R44, R46). -/
theorem len_le_of_delivered {i : Instr} {f : Frame} (hwf : i.wellFormed = true) (hres : isReserved i = false)
    (hf : deliveredFrame i = some f) : f.len.toNat ≤ 8 := by
  cases i with
  | upd len data => cases hf; exact ((wellFormed_upd_iff len data).mp hwf).2
  | nupShort len data =>
    cases hf
    have hlen := (wellFormed_nupShort_iff len data).mp hwf
    exact (Nat.le_of_lt hlen).trans (by decide)
  | nupId id len data => cases hf; exact ((wellFormed_nupId_iff id len data).mp hwf).2
  | rsvLen => cases hres
  | frame g => cases hf; exact (lenAdmitted_iff _).mp hwf
  | recv result =>
    cases result with
    | frame g => cases hf; exact (lenAdmitted_iff _).mp hwf
    | _ => cases hf
  | _ => cases hf

/-- A guarded operation that completes when it runs completes in every state. -/
theorem ifRunning_next_completes (s u : State) : ∃ t, ifRunning s (.next u) = .next t := by
  rcases ifRunning_cases s (.next u) with ⟨-, e⟩ | ⟨-, e⟩ <;> exact ⟨_, e⟩

/-- Every shape of a meaning completes but two: the refusal, which needs a reserved length, and the read of a missing
byte 1, which needs an ill-formed term. -/
theorem exec_completes {i : Instr} (hwf : i.wellFormed = true) (hres : isReserved i = false) (s : State) :
    ∃ t, exec i s = .next t := by
  cases meaning i with
  | reset hi he => exact ⟨_, he s⟩
  | busFault hi he => exact ⟨_, he s⟩
  | frame f load hi hload he => exact he s ▸ ifRunning_next_completes s _
  | record hi he => exact he s ▸ ifRunning_next_completes s _
  | silent hi he => exact ⟨_, he s⟩
  | reserved f hi hlen he =>
    exact absurd (len_le_of_delivered hwf hres hi.delivered) (Nat.not_le.mpr (hlen hwf))
  | unreadable f hi hill he => exact absurd hwf (ne_true_of_eq_false hill)

/-- The reserved class is refused in every state (R56). -/
theorem exec_of_isReserved {i : Instr} (h : isReserved i = true) (s : State) :
    exec i s = .refused .reservedLength := by
  cases i with
  | rsvLen => rfl
  | _ => cases h

/-- Settles O38. -/
theorem wellFormedInstructionsComplete : Obligations.WellFormedInstructionsComplete :=
  fun _ s hwf => ⟨fun hres => exec_completes hwf hres s, fun hres => exec_of_isReserved hres s⟩

end Sys2Proof.Machine

/-! The bit-field decoder and the snapshot register (R59 to R62): which bits of byte 1 are taken and which play no part,
when a frame loads `SNAP`, and that nothing else but a reset writes it. -/

namespace Sys2Proof.Machine

/-! ## The three bits -/

/-- Masking with a single bit compares that bit with zero (R59). -/
theorem and_twoPow_bne_zero {w k : Nat} (hk : k < w) (x : BitVec w) :
    (x &&& BitVec.twoPow w k != 0) = x.getLsbD k := by
  have hbit : BitVec.twoPow w k ≠ 0#w := by
    intro hzero
    have hk' := congrArg (BitVec.getLsbD · k) hzero
    simp [hk] at hk'
  rw [BitVec.and_twoPow]
  cases x.getLsbD k
  · simp
  · simpa using hbit

/-- The three bits by number (R59). -/
theorem dec_eq_bits (b : Byte) : dec b = ⟨b.getLsbD 4, b.getLsbD 6, b.getLsbD 7⟩ := rfl

/-- The three bits as masked comparisons (R59). -/
theorem dec_eq_masked (b : Byte) : dec b = ⟨b &&& 0x10 != 0, b &&& 0x40 != 0, b &&& 0x80 != 0⟩ := by
  have hmode : (b &&& 0x10 != 0) = b.getLsbD 4 := and_twoPow_bne_zero (k := 4) (by decide) b
  have hup : (b &&& 0x40 != 0) = b.getLsbD 6 := and_twoPow_bne_zero (k := 6) (by decide) b
  have hdown : (b &&& 0x80 != 0) = b.getLsbD 7 := and_twoPow_bne_zero (k := 7) (by decide) b
  rw [dec_eq_bits, hmode, hup, hdown]

/-- The mask `0xD0` keeps the three bits that the decoder takes (R59). -/
theorem dec_and_mask (b : Byte) : dec b = dec (b &&& 0xD0) := by
  have hmask : (0xD0 : Byte).getLsbD 4 = true ∧ (0xD0 : Byte).getLsbD 6 = true ∧ (0xD0 : Byte).getLsbD 7 = true := by
    decide
  obtain ⟨hmode, hup, hdown⟩ := hmask
  simp only [dec_eq_bits, BitVec.getLsbD_and, hmode, hup, hdown, Bool.and_true]

/-- The other bits of the byte play no part (R62). -/
theorem dec_congr {b c : Byte} (h : b &&& 0xD0 = c &&& 0xD0) : dec b = dec c := by
  rw [dec_and_mask b, h, ← dec_and_mask c]

/-- Settles O3: the three forms of the decoder, its table evaluated, and the snapshot of a selected frame's step. -/
theorem bitFieldDecoderTakesThreeBits : Obligations.BitFieldDecoderTakesThreeBits := by
  refine ⟨dec_eq_bits, dec_eq_masked, dec_and_mask, by decide, fun f s hlen hsel hrun => ?_⟩
  refine ⟨pipeline s (dec f.data.b1), ?_, pipeline_snap s _⟩
  rw [exec_frame_admitted hlen, ifRunning_running hrun, snapAfter_of_sel hsel]

/-! ## What plays no part in a frame step -/

/-- A frame acts through the snapshot it leaves, and through nothing else (R51). -/
theorem exec_frame_congr {f g : Frame} {s : State} (hf : f.len.toNat ≤ 8) (hg : g.len.toNat ≤ 8)
    (h : snapAfter f s.snap = snapAfter g s.snap) : exec (.frame f) s = exec (.frame g) s := by
  rw [exec_frame_admitted hf, exec_frame_admitted hg, h]

/-- Settles O18: two matching frames load the same snapshot, two non-matching ones retain it. -/
theorem ignoredBitsHaveNoEffect : Obligations.IgnoredBitsHaveNoEffect := by
  refine fun f g s hf hg => ⟨fun hfsel hgsel hbits => exec_frame_congr hf hg ?_,
    fun hfsel hgsel => exec_frame_congr hf hg ?_⟩
  · rw [snapAfter_of_sel hfsel, snapAfter_of_sel hgsel, dec_congr hbits]
  · rw [snapAfter_of_not_sel hfsel, snapAfter_of_not_sel hgsel]

/-- Latch and mapper see the new snapshot, and the old one is overwritten (R60). -/
theorem pipeline_setSnap (s : State) (old b : Snapshot) : pipeline (s.setSnap old) b = pipeline s b := rfl

/-- Settles O17: the update overwrites the whole snapshot with one that comes from the frame alone. -/
theorem updForgetsOldSnapshot : Obligations.UpdForgetsOldSnapshot := by
  intro len data s old hwf hrun
  obtain ⟨h2, -⟩ := (wellFormed_upd_iff len data).mp hwf
  have hrun' : (s.setSnap old).halt = false := hrun
  calc exec (.upd len data) (s.setSnap old)
    _ = .next (pipeline (s.setSnap old) (dec data.b1)) := by rw [exec_upd h2, ifRunning_running hrun']
    _ = .next (pipeline s (dec data.b1)) := by rw [pipeline_setSnap]
    _ = exec (.upd len data) s := by rw [exec_upd h2, ifRunning_running hrun]

/-! ## Who writes the snapshot -/

/-- Settles O31: of the effects an instruction can have, only a frame on a running block and a reset write `SNAP`. -/
theorem snapshotWrites : Obligations.SnapshotWrites := by
  intro i s t hwf h
  cases effect_of_exec h with
  | reset hi => simp only [hi.reset, if_true, powerOnReset_snap]
  | busFault hi => simp [hi.reset, hi.delivered]
  | frame f b hi hrun hb => simp [hi.reset, hi.delivered, hrun, hb hwf, snapAfter]
  | record hi hrun => simp [hi.reset, hi.delivered]
  | silent hi => simp [hi.reset, hi.delivered]
  | halted delivered hi hhalt => simp [hi.reset, hhalt]

end Sys2Proof.Machine

/-! The sticky latch (R64 to R72): the three rules of `NEXT` and what follows from them, which instructions write `STICKY`,
and what sets it. -/

namespace Sys2Proof.Machine

/-! ## The rules of `NEXT` -/

/-- Rule 1 of R66: the release has priority over mode and over the old latch. -/
theorem nextLatch_of_released {b : Snapshot} (h : b.seekAny = false) (s : Bool) : nextLatch s b = false := by
  simp [nextLatch, h]

/-- Rule 2 of R66. -/
theorem nextLatch_of_combination {b : Snapshot} (hseek : b.seekAny = true) (hmode : b.m = true) (s : Bool) :
    nextLatch s b = true := by
  simp [nextLatch, hseek, hmode]

/-- Rule 3 of R66. -/
theorem nextLatch_of_seek_alone {b : Snapshot} (hseek : b.seekAny = true) (hmode : b.m = false) (s : Bool) :
    nextLatch s b = s := by
  simp [nextLatch, hseek, hmode]

/-- An idle latch is set by the combination only (R69, R72). -/
theorem nextLatch_idle (b : Snapshot) : nextLatch false b = (b.m && b.seekAny) := by
  rw [nextLatch_closed_form, Bool.or_false, Bool.and_comm, Snapshot.seekAny]

/-- Settles O4: one rule for each clause, `seek_any` being `u OR d`. -/
theorem latchPriorityRules : Obligations.LatchPriorityRules := fun s m u d =>
  ⟨fun hseek => nextLatch_of_released (b := ⟨m, u, d⟩) hseek s,
    fun hseek hmode => nextLatch_of_combination (b := ⟨m, u, d⟩) hseek hmode s,
    fun hseek hmode => nextLatch_of_seek_alone (b := ⟨m, u, d⟩) hseek hmode s⟩

/-- Settles O5. -/
theorem latchClosedForm : Obligations.LatchClosedForm := fun s m u d => nextLatch_closed_form s ⟨m, u, d⟩

/-- Settles O6: release, set and hold are the three rules, and idempotence is the settling of the latch. -/
theorem latchProperties : Obligations.LatchProperties :=
  ⟨fun s m => nextLatch_of_released (b := ⟨m, false, false⟩) rfl s,
    fun s u d hseek => nextLatch_of_combination (b := ⟨true, u, d⟩) hseek rfl s,
    nextLatch_idem,
    fun s u d hseek => nextLatch_of_seek_alone (b := ⟨false, u, d⟩) hseek rfl s⟩

/-! ## Who writes the latch -/

/-- Settles O32: of the effects an instruction can have, only a frame on a running block and a reset write `STICKY`. -/
theorem latchWrites : Obligations.LatchWrites := by
  intro i s t h
  cases effect_of_exec h with
  | reset hi => simp [hi.reset]
  | busFault hi => simp [hi.reset, delivers, hi.delivered]
  | frame f b hi hrun => simp [hi.reset, delivers, hi.delivered, hrun]
  | record hi => simp [hi.reset, delivers, hi.delivered]
  | silent hi => simp [hi.reset, delivers, hi.delivered]
  | halted delivered hi hhalt => simp [hi.reset, hhalt]

/-! ## What sets the latch -/

/-- A frame whose step sets an idle, settled latch matches and shows the combination: on the retained snapshot of a
non-matching frame the latch would have stayed (R71, R72). -/
theorem combination_of_latch_set {f : Frame} {old : Snapshot} (hsettled : nextLatch false old = false)
    (hset : nextLatch false (snapAfter f old) = true) :
    (sel f && (dec f.data.b1).m && (dec f.data.b1).seekAny) = true := by
  cases hsel : sel f with
  | false =>
    rw [snapAfter_of_not_sel hsel, hsettled] at hset
    cases hset
  | true =>
    rw [snapAfter_of_sel hsel, nextLatch_idle] at hset
    rw [Bool.true_and, hset]

/-- Settles O56: reset clears the latch, a frame step sets it by the combination only, and no other effect writes it. -/
theorem latchIsSetOnlyByACombination : Obligations.LatchIsSetOnlyByACombination := by
  intro i s t hwf hsettled h hidle hset
  have hchanged : t.sticky ≠ s.sticky := by rw [hidle, hset]; decide
  cases effect_of_exec h with
  | reset => cases hset
  | frame f b hi hrun hb =>
    rw [pipeline_sticky, hidle, hb hwf] at hset
    rw [Settled, hidle] at hsettled
    rw [delivers, hi.delivered]
    exact combination_of_latch_set hsettled hset
  | busFault => exact absurd rfl hchanged
  | record => exact absurd rfl hchanged
  | silent => exact absurd rfl hchanged
  | halted => exact absurd rfl hchanged

end Sys2Proof.Machine

/-! The output mapper, the levels and the line register (R73 to R79): `MAP` for either value of the latch, which
instructions write `OUT`, and what the lines show after a frame step. -/

namespace Sys2Proof.Machine

/-! ## The mapper and the levels -/

/-- Settles O7: the mapper's equations, by its definition. -/
theorem mapperEquations : Obligations.MapperEquations := fun _ _ _ _ => rfl

/-- Settles O9, at the opaque polarity: the equation of `LVL` holds before its value is known. -/
theorem levelsFollowPolarity : Obligations.LevelsFollowPolarity := fun _ _ _ _ => rfl

theorem mapOut_play (s : Bool) (b : Snapshot) : (mapOut s b).play = (s || b.m) := rfl

/-- `led` mirrors `play` (R73). -/
theorem mapOut_led (s : Bool) (b : Snapshot) : (mapOut s b).led = (mapOut s b).play := rfl

/-- While the latch is idle the three buttons pass through, both seek buttons too (R73, R77). -/
theorem mapOut_idle (b : Snapshot) : mapOut false b = ⟨b.m, b.m, b.u, b.d⟩ := by
  simp [mapOut]

/-- While the latch is set the snapshot plays no part (R73, R79). -/
theorem mapOut_sticky (b : Snapshot) : mapOut true b = ⟨true, true, false, false⟩ := by
  simp [mapOut]

/-- On a settled latch that shows play nothing else is shown: an idle latch with mode held has settled only if no seek
button is held, since the combination would have set it (R74, R79). -/
theorem mapOut_of_settled_play {s : Bool} {b : Snapshot} (hsettled : nextLatch s b = s)
    (hplay : (mapOut s b).play = true) : mapOut s b = ⟨true, true, false, false⟩ := by
  cases s with
  | true => exact mapOut_sticky b
  | false =>
    have hmode : b.m = true := by rwa [mapOut_idle] at hplay
    have hreleased : b.u = false ∧ b.d = false := by
      simpa [nextLatch_idle, hmode, Snapshot.seekAny] using hsettled
    obtain ⟨hup, hdown⟩ := hreleased
    rw [mapOut_idle, hmode, hup, hdown]

/-- A settled latch shows one of the five outputs (R79). -/
theorem mapOut_mem_shownOutputs {s : Bool} {b : Snapshot} (hsettled : nextLatch s b = s) :
    mapOut s b ∈ shownOutputs :=
  (mem_shownOutputs_iff _).mpr ⟨(s, b), (nextLatch_fixed_iff s b).mp hsettled, rfl⟩

/-! ## Who writes the lines -/

/-- Settles O33: of the effects an instruction can have, only a frame on a running block and a reset write `OUT`. -/
theorem lineWrites : Obligations.LineWrites := by
  intro i s t h
  cases effect_of_exec h with
  | reset hi => simp [hi.reset]
  | busFault hi => simp [hi.reset, delivers, hi.delivered]
  | frame f b hi hrun => simp [hi.reset, delivers, hi.delivered, hrun]
  | record hi => simp [hi.reset, delivers, hi.delivered]
  | silent hi => simp [hi.reset, delivers, hi.delivered]
  | halted delivered hi hhalt => simp [hi.reset, hhalt]

/-! ## What the lines show after a frame step -/

/-- Settles O16: a seek button alone leaves an idle latch idle, and an idle latch passes both buttons through. -/
theorem bothSeekButtonsPassThrough : Obligations.BothSeekButtonsPassThrough := by
  intro len data s h2 _ hrun hidle hdec
  have hlatch : nextLatch s.sticky ⟨false, true, true⟩ = false := by
    rw [nextLatch_of_seek_alone rfl rfl, hidle]
  refine ⟨pipeline s ⟨false, true, true⟩, ?_, hlatch, ?_⟩
  · rw [exec_upd h2, ifRunning_running hrun, hdec]
  · rw [pipeline_out, hlatch, mapOut_idle]

/-- A `FRAME` that a running block completes is the pipeline on the snapshot that the frame leaves (R51). -/
theorem eq_pipeline_of_exec_frame {f : Frame} {s t : State} (hrun : s.halt = false)
    (h : exec (.frame f) s = .next t) : t = pipeline s (snapAfter f s.snap) := by
  rcases Nat.lt_or_ge 8 f.len.toNat with hlen | hlen
  · cases h.symm.trans (frameStep_reserved hlen s)
  · rw [exec_frame_admitted hlen, ifRunning_running hrun] at h
    cases h
    rfl

/-- Settles O53: the step leaves a settled latch whatever it found, and the lines show the mapper's output for it. -/
theorem linesAfterAFrameStep : Obligations.LinesAfterAFrameStep := by
  intro f s t _ hrun h
  cases eq_pipeline_of_exec_frame hrun h
  generalize snapAfter f s.snap = b
  have hsettled : nextLatch (nextLatch s.sticky b) b = nextLatch s.sticky b := nextLatch_idem s.sticky b
  refine ⟨mapOut (nextLatch s.sticky b) b, mapOut_mem_shownOutputs hsettled, pipeline_out s b, mapOut_led _ b,
    fun hheld => mapOut_of_settled_play hsettled ?_, fun hplay => ?_⟩
  · rw [mapOut_play, Bool.or_eq_true]
    exact hheld
  · rw [mapOut_of_settled_play hsettled hplay]
    exact ⟨rfl, rfl⟩

end Sys2Proof.Machine

/-! The Bus Endpoint (R81 to R83): what its operations answer, which instructions write the endpoint's record (log 6), and
what a power cycle that keeps the startup contract (R100, R101; log 21) sends. -/

namespace Sys2Proof.Machine

/-! ## The operations -/

/-- What an endpoint operation does: it completes on a running block, and a halted one does not do it (log 7). -/
theorem exec_of_guarded {i : Instr} {s t : State} (he : exec i s = ifRunning s (.next t)) :
    (s.halt = false → exec i s = .next t) ∧ (s.halt = true → exec i s = .next s) :=
  ⟨fun hrun => he.trans (ifRunning_running hrun _), fun hhalt => he.trans (ifRunning_halted hhalt _)⟩

/-- `FILT_ALL` in every state (R82). -/
theorem exec_filtAll (s : State) :
    exec .filtAll s = ifRunning s (.next (s.setEndpoint ⟨true, s.endpoint.sent⟩)) := rfl

/-- A sent `TXDIAG` in every state, with the word of its frame written out (R83, R48). -/
theorem exec_txdiag_sent (s : State) :
    exec (.txdiag .sent) s =
      ifRunning s (.next (s.setEndpoint ⟨s.endpoint.filterAll, s.endpoint.sent ++ [0x00140102030400000000]⟩)) := by
  have hword : wordOfFrame diagFrame = 0x00140102030400000000 := rfl
  rw [← hword]
  rfl

/-- A failed `TXDIAG` in every state (R83, R91). -/
theorem exec_txdiag_failed (s : State) : exec (.txdiag .failed) s = .next (s.setHalt true) := rfl

/-- Settles O25. -/
theorem filterProgrammingResult : Obligations.FilterProgrammingResult := fun s => exec_of_guarded (exec_filtAll s)

/-- Settles O26: the guarded transmit, and the exception. -/
theorem diagnosticTransmitResult : Obligations.DiagnosticTransmitResult := by
  intro s
  obtain ⟨hrunning, hhalted⟩ := exec_of_guarded (exec_txdiag_sent s)
  exact ⟨hrunning, hhalted, exec_txdiag_failed s⟩

/-- A receive completed with a frame is that frame's event, also where it is refused (R81). -/
theorem exec_recv_frame (f : Frame) (s : State) : exec (.recv (.frame f)) s = exec (.frame f) s := rfl

/-- Settles O27: a frame of an admitted length completes, and the receive that delivers it is its event. -/
theorem receiveIsOneEvent : Obligations.ReceiveIsOneEvent := by
  refine fun s => ⟨fun f hlen => ?_, rfl, rfl⟩
  obtain ⟨t, ht⟩ := exec_completes (i := .frame f) ((lenAdmitted_iff f.len).mpr hlen) rfl s
  exact ⟨t, (exec_recv_frame f s).trans ht, ht⟩

/-! ## Who writes the endpoint's record -/

/-- Only a reset and the endpoint operations write the record, and the operations on a running block only. -/
theorem endpoint_of_exec {i : Instr} {s t : State} (h : exec i s = .next t) :
    (isReset i = true ∧ t.endpoint = ⟨false, []⟩) ∨
    (isReset i = false ∧ t.endpoint = s.endpoint) ∨
    (isReset i = false ∧ s.halt = false ∧ t.endpoint = endpointAfter i s.endpoint) := by
  cases effect_of_exec h with
  | reset hi => exact .inl ⟨hi.reset, rfl⟩
  | busFault hi => exact .inr (.inl ⟨hi.reset, rfl⟩)
  | frame f b hi => exact .inr (.inl ⟨hi.reset, rfl⟩)
  | record hi hrun => exact .inr (.inr ⟨hi.reset, hrun, rfl⟩)
  | silent hi => exact .inr (.inl ⟨hi.reset, rfl⟩)
  | halted delivered hi => exact .inr (.inl ⟨hi.reset, rfl⟩)

/-- Of the endpoint operations only a sent `TXDIAG` adds a frame (R82, R83). -/
theorem endpointAfter_sent_of_ne {i : Instr} (hi : i ≠ .txdiag .sent) (e : Endpoint) :
    (endpointAfter i e).sent = e.sent := by
  cases i with
  | txdiag result =>
    cases result with
    | sent => exact absurd rfl hi
    | failed => rfl
  | _ => rfl

/-- Settles O35: a sent `TXDIAG` by its own equation; any other instruction clears the record by a reset or keeps the
frames in it. -/
theorem onlyTheDiagnosticFrameIsSent : Obligations.OnlyTheDiagnosticFrameIsSent := by
  intro i s t h
  by_cases hi : i = .txdiag .sent
  · subst hi
    rw [exec_txdiag_sent, ifRunning_eq_next_iff] at h
    rcases h with ⟨hhalt, rfl⟩ | ⟨hrun, hnext⟩
    · simp [isReset, hhalt]
    · cases hnext
      simp [isReset, hrun]
  · rcases endpoint_of_exec h with ⟨hreset, he⟩ | ⟨hreset, he⟩ | ⟨hreset, -, he⟩
    · simp [hreset, he]
    · simp [hreset, he, hi]
    · simp [hreset, he, hi, endpointAfter_sent_of_ne hi]

/-! ## A power cycle -/

/-- An event of the loop is neither a reset nor of the reserved class, and no endpoint operation (R82, R83, R101). -/
theorem loopEvent_spec {i : Instr} (h : loopEvent i = true) :
    isReset i = false ∧ isReserved i = false ∧ ∀ e, endpointAfter i e = e := by
  cases i with
  | txdiag => cases h
  | reset => cases h
  | rsvLen => cases h
  | filtAll => cases h
  | _ => exact ⟨rfl, rfl, fun _ => rfl⟩

/-- The loop leaves the endpoint's record as the startup left it. -/
theorem endpoint_of_loopEvent {i : Instr} {s t : State} (hi : loopEvent i = true) (h : exec i s = .next t) :
    t.endpoint = s.endpoint := by
  obtain ⟨hnoReset, -, hkeeps⟩ := loopEvent_spec hi
  rcases endpoint_of_exec h with ⟨hreset, -⟩ | ⟨-, he⟩ | ⟨-, -, he⟩
  · cases hreset.symm.trans hnoReset
  · exact he
  · exact he.trans (hkeeps s.endpoint)

/-- The loop completes from every state, halted or not, and sends nothing. -/
theorem run_loop_completes {loop : List Instr} (h : ∀ i ∈ loop, i.wellFormed = true ∧ loopEvent i = true) (s : State) :
    ∃ t, run loop s = .next t ∧ t.endpoint = s.endpoint := by
  induction loop generalizing s with
  | nil => exact ⟨s, run_nil s, rfl⟩
  | cons i is ih =>
    obtain ⟨⟨hwf, hi⟩, his⟩ := List.forall_mem_cons.mp h
    obtain ⟨-, hres, -⟩ := loopEvent_spec hi
    obtain ⟨u, hu⟩ := exec_completes hwf hres s
    obtain ⟨t, ht, he⟩ := ih his u
    exact ⟨t, (run_cons_of_next hu is).trans ht, he.trans (endpoint_of_loopEvent hi hu)⟩

/-- The two forms of the startup contract: the transmit failed and nothing follows, or it was sent and the loop follows
(R100, R101). -/
theorem properPowerCycle_cases {is : List Instr} (h : properPowerCycle is = true) :
    is = [.filtAll, .txdiag .failed] ∨
    ∃ loop, is = .filtAll :: .txdiag .sent :: loop ∧ ∀ i ∈ loop, i.wellFormed = true ∧ loopEvent i = true := by
  unfold properPowerCycle at h
  split at h
  · exact .inl rfl
  · exact .inr ⟨_, rfl, by simpa using h⟩
  · cases h

/-- The filter is programmed first (R100). -/
theorem run_filtAll_from_reset (is : List Instr) :
    run (.filtAll :: is) State.reset = run is (State.reset.setEndpoint ⟨true, []⟩) :=
  run_cons_of_next ((exec_filtAll _).trans (ifRunning_running reset_halt _)) is

/-- Settles O58: the startup is run through, and the loop after a sent frame leaves the record alone. -/
theorem properPowerCycleSendsOnce : Obligations.ProperPowerCycleSendsOnce := by
  intro is h
  rcases properPowerCycle_cases h with rfl | ⟨loop, rfl, hloop⟩
  · refine ⟨(State.reset.setEndpoint ⟨true, []⟩).setHalt true, ?_, rfl, .inr ⟨rfl, rfl, rfl, rfl, rfl, rfl⟩⟩
    rw [run_filtAll_from_reset, run_cons_of_next (exec_txdiag_failed _), run_nil]
  · have hsent := (exec_txdiag_sent (State.reset.setEndpoint ⟨true, []⟩)).trans (ifRunning_running reset_halt _)
    obtain ⟨t, ht, he⟩ := run_loop_completes hloop _
    rw [run_filtAll_from_reset, run_cons_of_next hsent]
    exact ⟨t, ht, congrArg Endpoint.filterAll he, .inl (congrArg Endpoint.sent he)⟩

end Sys2Proof.Machine

/-! The one exception and the way out of it (R86 to R92, R99): entry sets `HALT` and nothing else, a halted block holds
under every run without a reset, and the priority of the event ports (R90, R112). -/

namespace Sys2Proof.Machine

/-! ## Entry and exit -/

/-- `FAULT` in every state: `HALT` is set, whatever the cause and whatever coincides (R91, R90). -/
theorem exec_fault (c : BusFaultCause) (v : Bool) (s : State) : exec (.fault c v) s = .next (s.setHalt true) := rfl

/-- `RESET` in every state, whatever coincides (R99, R90). -/
theorem exec_reset (b v : Bool) (s : State) : exec (.reset b v) s = .next (powerOnReset s) := rfl

/-! ## A halted block -/

/-- On a halted block every instruction but a reset and the reserved class completes and changes nothing (R17, R91). -/
theorem exec_of_halted {i : Instr} {s : State} (hhalt : s.halt = true) (hwf : i.wellFormed = true)
    (hreset : isReset i = false) (hres : isReserved i = false) : exec i s = .next s := by
  obtain ⟨t, ht⟩ := exec_completes hwf hres s
  rwa [exec_halted ht hhalt hreset] at ht

/-- Settles O21: the entry, then a frame and a further fault as events of the halted block. -/
theorem busFaultHaltsForGood : Obligations.BusFaultHaltsForGood := by
  intro c v s
  have hhalt : (s.setHalt true).halt = true := setHalt_halt s true
  refine ⟨exec_fault c v s, fun f hlen => ?_, fun c' v' => ?_⟩
  · exact exec_of_halted (i := .frame f) hhalt ((lenAdmitted_iff f.len).mpr hlen) rfl rfl
  · exact exec_of_halted (i := .fault c' v') hhalt rfl rfl rfl

/-- No run of such instructions ends a halt or changes anything during it (R92). -/
theorem run_of_halted {is : List Instr} {s : State} (hhalt : s.halt = true)
    (his : ∀ i ∈ is, i.wellFormed = true ∧ isReset i = false ∧ isReserved i = false) : run is s = .next s := by
  induction is with
  | nil => exact run_nil s
  | cons i is ih =>
    obtain ⟨⟨hwf, hreset, hres⟩, hrest⟩ := List.forall_mem_cons.mp his
    rw [run_cons_of_next (exec_of_halted hhalt hwf hreset hres), ih hrest]

/-- A run that answers a next state is followed by the remaining events from there (R36). -/
theorem run_append_of_next {is : List Instr} {s t : State} (h : run is s = .next t) (js : List Instr) :
    run (is ++ js) s = run js t := by
  induction is generalizing s with
  | nil => cases h; rfl
  | cons i is ih =>
    obtain ⟨u, hu, hrest⟩ := exec_next_of_run_cons h
    rw [List.cons_append, run_cons_of_next hu, ih hrest]

/-- Settles O57: the run leaves the halted state as it is, and the reset at its end clears `HALT`. -/
theorem onlyResetEndsAHalt : Obligations.OnlyResetEndsAHalt := by
  intro is s hhalt his
  have hstuck : run is s = .next s := run_of_halted hhalt his
  refine ⟨hstuck, fun b v => ⟨powerOnReset s, ?_, powerOnReset_halt s⟩⟩
  rw [run_append_of_next hstuck, run_cons_of_next (exec_reset b v s), run_nil]

/-! ## The ports -/

/-- A step on a sample of the ports runs the event that its event word stands for (R112). -/
theorem step_of_event {s : State} {ew : EventWord} {fw : FrameWord} {c : BusFaultCause} {rest : List Encoded}
    {i : Instr} (hin : s.input = .evt ew fw c :: rest) (hdec : decodeEvent ew fw c = i) :
    step s = exec i (s.setInput rest) :=
  step_of_decode_ok hin (congrArg Except.ok hdec)

/-- Settles O49: the event word decodes by its first port that is set, and each event does what its meaning says. -/
theorem portPriority : Obligations.PortPriority := by
  intro b v fw c s rest
  refine ⟨fun hin => ⟨powerOnReset (s.setInput rest), ?_, rfl, rfl, rfl, rfl⟩, fun hin => ?_, fun hin => ?_,
    fun hin => ?_⟩
  · rw [step_of_event hin (decodeEvent_reset b v fw c), exec_reset]
  · rw [step_of_event hin (decodeEvent_fault v fw c), exec_fault]
    rfl
  · exact step_of_event hin (decodeEvent_frame fw c)
  · exact step_of_event hin (i := .noEvent) rfl

end Sys2Proof.Machine

/-! Reset and the hazards of the bus (R99, R102, R106, R107): the values after reset and after the first frame step, that
foreign bus load changes nothing, and that a set latch stays set until both seek buttons are released. -/

namespace Sys2Proof.Machine

/-! ## Delivered frames -/

theorem delivers_iff (i : Instr) (p : Frame → Bool) :
    delivers i p = true ↔ ∃ f, deliveredFrame i = some f ∧ p f = true := by
  cases hf : deliveredFrame i <;> simp [delivers, hf]

/-- Every spelling of an admitted frame runs the one frame step (R51, R53 to R55, R81). -/
theorem exec_of_delivered {i : Instr} {f : Frame} (hwf : i.wellFormed = true) (hf : deliveredFrame i = some f)
    (hlen : f.len.toNat ≤ 8) (s : State) : exec i s = ifRunning s (.next (pipeline s (snapAfter f s.snap))) := by
  cases meaning i with
  | frame g load hi hload he =>
    obtain rfl : g = f := Option.some.inj (hi.delivered.symm.trans hf)
    rw [he s, hload hwf]
  | reserved g hi hreserved he =>
    obtain rfl : g = f := Option.some.inj (hi.delivered.symm.trans hf)
    exact absurd hlen (Nat.not_le.mpr (hreserved hwf))
  | unreadable g hi hill he => exact absurd hwf (ne_true_of_eq_false hill)
  | reset hi he => cases hi.delivered.symm.trans hf
  | busFault hi he => cases hi.delivered.symm.trans hf
  | record hi he => cases hi.delivered.symm.trans hf
  | silent hi he => cases hi.delivered.symm.trans hf

/-! ## Reset and the first frame step -/

/-- Settles O22: whatever the four registers held, reset overwrites them. -/
theorem resetValues : Obligations.ResetValues :=
  ⟨fun b v s => ⟨powerOnReset s, exec_reset b v s, powerOnReset_snap s, powerOnReset_sticky s, powerOnReset_out s,
    powerOnReset_halt s⟩, reset_snap, reset_sticky, reset_out, reset_halt⟩

/-- Four false outputs are four lines at the level of false, at either polarity (R75). -/
theorem lvl_all_false : lvl ⟨false, false, false, false⟩ = Lines.all (!Config.trueIsHigh) := by
  unfold lvl lvlWith
  cases Config.trueIsHigh <;> rfl

/-- Settles O20: the latch runs from its reset value, on the frame's snapshot or on the reset value of `SNAP`. -/
theorem firstFrameAfterReset : Obligations.FirstFrameAfterReset := by
  rintro f s ⟨hsnap, hsticky, -⟩ hrun hlen
  have hidle : s.sticky = false := hsticky
  refine ⟨pipeline s (snapAfter f s.snap), ?_, fun hsel => ?_, fun hsel => ?_⟩
  · rw [exec_frame_admitted hlen, ifRunning_running hrun]
  · rw [snapAfter_of_sel hsel]
    exact ⟨rfl, by rw [pipeline_sticky, hidle], rfl⟩
  · have hreleased : s.snap = ⟨false, false, false⟩ := hsnap
    have hlatch : nextLatch s.sticky ⟨false, false, false⟩ = false := nextLatch_of_released rfl _
    rw [snapAfter_of_not_sel hsel, hreleased, pipeline_out, hlatch, mapOut_idle]
    exact ⟨rfl, hlatch, lvl_all_false⟩

/-! ## Bus load -/

/-- On the retained snapshot a settled latch and driven lines are written with what they hold (R71, R106). -/
theorem pipeline_of_driven {s : State} (hsettled : Settled s) (hdriven : OutDriven s) : pipeline s s.snap = s := by
  calc pipeline s s.snap
      = (s.setSticky s.sticky).setOut (lvl (mapOut s.sticky s.snap)) := by rw [pipeline, hsettled]; rfl
    _ = (s.setSticky s.sticky).setOut s.out := by rw [hdriven]
    _ = s := rfl

/-- A non-matching frame changes nothing once the state is settled and the lines are driven (R106). -/
theorem exec_of_not_sel {i : Instr} {f : Frame} {s : State} (hwf : i.wellFormed = true)
    (hf : deliveredFrame i = some f) (hlen : f.len.toNat ≤ 8) (hsel : sel f = false) (hsettled : Settled s)
    (hdriven : OutDriven s) : exec i s = .next s := by
  rw [exec_of_delivered hwf hf hlen, snapAfter_of_not_sel hsel, pipeline_of_driven hsettled hdriven]
  rcases ifRunning_cases s (.next s) with ⟨-, e⟩ | ⟨-, e⟩ <;> exact e

/-- A run of instructions that each change nothing in `s` ends in `s`. -/
theorem run_of_fixed {is : List Instr} {s : State} (h : ∀ i ∈ is, exec i s = .next s) : run is s = .next s := by
  induction is with
  | nil => exact run_nil s
  | cons i is ih =>
    obtain ⟨hi, his⟩ := List.forall_mem_cons.mp h
    rw [run_cons_of_next hi, ih his]

/-- Settles O54: each event of the run changes nothing. -/
theorem busLoadCannotDisturb : Obligations.BusLoadCannotDisturb := by
  intro is s hsettled hdriven h
  refine run_of_fixed fun i hi => ?_
  rcases h i hi with rfl | ⟨hwf, hdelivers⟩
  · rfl
  · obtain ⟨f, hf, hp⟩ := (delivers_iff i _).mp hdelivers
    obtain ⟨hsel, hlen⟩ := Bool.and_eq_true_iff.mp hp
    exact exec_of_not_sel hwf hf ((lenAdmitted_iff _).mp hlen) ((Bool.not_eq_true' _).mp hsel) hsettled hdriven

/-! ## The set latch -/

/-- A seek button keeps a set latch set, with mode or without (R72). -/
theorem nextLatch_set_of_seek {b : Snapshot} (hseek : b.seekAny = true) : nextLatch true b = true := by
  cases hmode : b.m
  · exact nextLatch_of_seek_alone hseek hmode true
  · exact nextLatch_of_combination hseek hmode true

/-- The frame does not match, or it shows a seek button (R107). -/
abbrev KeepsSeek (f : Frame) : Prop := sel f = false ∨ (dec f.data.b1).seekAny = true

/-- A settled, set latch stays set on the snapshot that such a frame leaves: the retained one held it already. -/
theorem nextLatch_snapAfter_of_keepsSeek {f : Frame} {old : Snapshot} (hold : nextLatch true old = true)
    (hkeeps : KeepsSeek f) : nextLatch true (snapAfter f old) = true := by
  cases hsel : sel f with
  | false => rwa [snapAfter_of_not_sel hsel]
  | true =>
    rw [snapAfter_of_sel hsel]
    exact nextLatch_set_of_seek (hkeeps.resolve_left (ne_false_of_eq_true hsel))

/-- A running block whose latch is set and settled (R107). -/
abbrev Swallowing (s : State) : Prop := Settled s ∧ s.sticky = true ∧ s.halt = false

/-- On such a block such a frame completes, leaves such a block, and play alone is shown (R107, R79). -/
theorem exec_keeps_swallowing {i : Instr} {f : Frame} {s : State} (hs : Swallowing s) (hwf : i.wellFormed = true)
    (hf : deliveredFrame i = some f) (hlen : f.len.toNat ≤ 8) (hkeeps : KeepsSeek f) :
    ∃ t, exec i s = .next t ∧ Swallowing t ∧ t.out = lvl ⟨true, true, false, false⟩ := by
  obtain ⟨hsettled, hset, hrun⟩ := hs
  have hold : nextLatch true s.snap = true := by rwa [Settled, hset] at hsettled
  have hlatch : nextLatch s.sticky (snapAfter f s.snap) = true := by
    rw [hset, nextLatch_snapAfter_of_keepsSeek hold hkeeps]
  refine ⟨pipeline s (snapAfter f s.snap), ?_, ⟨nextLatch_idem _ _, hlatch, hrun⟩, ?_⟩
  · rw [exec_of_delivered hwf hf hlen, ifRunning_running hrun]
  · rw [pipeline_out, hlatch, mapOut_sticky]

/-- The observation of a run whose first event answers a next state (R27). -/
theorem observe_cons_of_next {i : Instr} {s t : State} (h : exec i s = .next t) (is : List Instr) :
    observe (i :: is) s = s.out :: observe is t := by simp [observe, h]

/-- Settles O55, by induction on the run: each event leaves a running block with a settled, set latch, and play on the
lines. -/
theorem seekIsSwallowedWhileSticky : Obligations.SeekIsSwallowedWhileSticky := by
  intro is
  induction is with
  | nil => exact fun s _ hset hrun _ => ⟨s, run_nil s, hset, hrun, rfl⟩
  | cons i is ih =>
    intro s hsettled hset hrun h
    obtain ⟨⟨hwf, hdelivers⟩, his⟩ := List.forall_mem_cons.mp h
    obtain ⟨f, hf, hp⟩ := (delivers_iff i _).mp hdelivers
    obtain ⟨hlen, hkeeps⟩ : f.len.toNat ≤ 8 ∧ KeepsSeek f := by simpa using hp
    obtain ⟨u, hu, ⟨husettled, huset, hurun⟩, huout⟩ :=
      exec_keeps_swallowing ⟨hsettled, hset, hrun⟩ hwf hf hlen hkeeps
    obtain ⟨t, ht, htset, htrun, hobserve⟩ := ih u husettled huset hurun his
    refine ⟨t, (run_cons_of_next hu is).trans ht, htset, htrun, ?_⟩
    rw [observe_cons_of_next hu, hobserve, huout, List.length_cons, List.replicate_succ]

end Sys2Proof.Machine

/-! The next state of `Reset` as a whole: no field but the events still to come survives it (R99; the model's log 1, log 6
and log 25). -/

namespace Sys2Proof.Machine

/-- Power-on reset takes nothing from the old state but the events still to come (log 25). -/
theorem powerOnReset_eq (s : State) : powerOnReset s = { State.reset with input := s.input } := rfl

/-- Settles O23: `Reset` answers the power-on reset, halted or not. -/
theorem resetKeepsOnlyTheInput : Obligations.ResetKeepsOnlyTheInput := fun b v s =>
  calc exec (.reset b v) s
      = .next (powerOnReset s) := exec_reset b v s
    _ = .next { State.reset with input := s.input } := congrArg _ (powerOnReset_eq s)

end Sys2Proof.Machine
